-- ==== Sys2Proof/Word.lean ====
section
/-! DEFINITION. The plain types of the block: bytes, bus beats, carrier numbers and the tables indexed by them. -/

namespace Sys2Proof

/-- One byte. -/
abbrev Byte := BitVec 8

/-- The 8 data bytes of one bus beat, byte j at bits 8j to 8j+7 (R42, and "Bits and bytes" of 00_scope.md). -/
abbrev BeatData := BitVec 64

/-- A master number, 0 to 7 (R42). -/
abbrev Master := BitVec 3

/-- A 40-bit byte address (00_scope.md, Numbers). -/
abbrev Address := BitVec 40

/-- A slot number, 0 to 4095, compared modulo 4096 (R27). -/
abbrev Slot := BitVec 12

/-- A 32-bit generation or window number (R27, R136). -/
abbrev Word32 := BitVec 32

/-- A carrier number, 0 to 23 (R1). -/
abbrev Carrier := Fin 24

/-- The carrier numbers in ascending order, the order of R11. -/
def carriers : List Carrier := List.finRange 24

/-- One value for each of the 24 carrier numbers. -/
abbrev Table (α : Type) := Vector α 24

/-- The table whose entry for carrier c is `f c`. -/
def tabulate {α : Type} (f : Carrier → α) : Table α :=
  ⟨#[f 0, f 1, f 2, f 3, f 4, f 5, f 6, f 7, f 8, f 9, f 10, f 11,
     f 12, f 13, f 14, f 15, f 16, f 17, f 18, f 19, f 20, f 21, f 22, f 23], rfl⟩

/-- The table with the entry of carrier `c` replaced. -/
def tablePut {α : Type} (t : Table α) (c : Carrier) (x : α) : Table α :=
  t.set c.val x c.isLt

end Sys2Proof
end

