-- ==== Sys2Proof/Syntax.lean ====
section
/-! DEFINITION. The commands of the block: one constructor of `Instr` for each row of spec/opcode_table.json, with the
operands its rules give it, and the types of those operands. -/

namespace Sys2Proof

/-- The kind of a bus request (R42). -/
inductive AccessKind where
  | read
  | write
  deriving DecidableEq, Repr

/-- One data beat of a write: 8 bytes with a byte enable each (R42). Enable j belongs to byte j. -/
structure Beat where
  data : BeatData
  enables : BitVec 8
  deriving DecidableEq, Repr

/-- A bus request (R42). `count` is the beat count. `data` holds one beat for each counted beat of a WRITE, in ascending
address order, and is empty for a READ. -/
structure Request where
  master : Master
  kind : AccessKind
  address : Address
  count : Nat
  data : List Beat
  deriving DecidableEq, Repr

/-- The status of a response (R42). -/
inductive ResponseStatus where
  | ok
  | error
  deriving DecidableEq, Repr

/-- The three fail-safe causes (R20). -/
inductive FailSafe where
  | holdover
  | heartbeatLapsed
  | fabricReset
  deriving DecidableEq, Repr

/-- The order of takings around one tick where the spec leaves it open; the operand says which came about.
`slotsLate`: the Descriptor Monitor, the Load Evaluator and the Carrier Controller take the tick after the Policy Loader has
taken it and made the application that falls on it (R34, R75). `arbiterLate`: so does the Warm-up Arbiter. Neither has an
effect at a tick at which no generation is looked for (R140). `handedWait`: the grants, demands and fail-safe causes handed to
the Carrier Controller and not yet taken stay outstanding over the tick, but for the HOLDOVER cause (R100, R112, R119).
`lapseFirst`: a heartbeat lapse that the tick brings about, and its cause at the Carrier Controller, are taken before the
Descriptor Monitor, the Load Evaluator and the Carrier Controller take the tick (R113). It has no effect at a tick at which
the heartbeat does not lapse. -/
structure TickOrder where
  slotsLate : Bool
  arbiterLate : Bool
  handedWait : Bool
  lapseFirst : Bool
  deriving DecidableEq, Repr

/-- When the Carrier Controller takes the HOLDOVER cause that step 5 of R31 hands it: before every other event outstanding at
that moment; after them; or after the first local tick (R100, R106). A DRAIN verdict outstanding, and a boundary that may yet
bring one, is taken before the cause in each case, since no carrier drains after it (R100, R112; notes/assumptions/37.md). -/
inductive HoldoverOrder where
  | beforeOutstanding
  | afterOutstanding
  | afterLocalTick
  deriving DecidableEq, Repr

/-- The order of the three takings of one fabric reset that hand records: the Carrier Controller's taking of the
FABRIC_RESET cause, the Policy Loader's (R149) and the Report Unit's (R159). The spec gives them no order. Where the
Controller comes last its cause stays outstanding, so that further events may come before it (R112). -/
inductive ResetOrder where
  | controllerLoaderReport
  | controllerReportLoader
  | loaderControllerReport
  | reportControllerLoader
  | loaderReportController
  | reportLoaderController
  deriving DecidableEq, Repr

/-- The commands of the block, one constructor per row of spec/opcode_table.json. A row that names an event outside the
part (a pin, a bus request, a response, a passing of local time) makes that event come about. A row that names an event
inside the part (a grant handed to the Carrier Controller, a boundary handed on, an expiry) takes that event where it is
outstanding; the order of the commands is the order in which the events are taken (R25, R113, R125, R131). -/
inductive Instr where
  /-- POWER_ON_RESET (R22), with the levels of the policy base straps and policy master straps sampled at it (R43). -/
  | powerOnReset (strapBase : BitVec 20) (strapMaster : Master)
  /-- FABRIC_RESET (R21): assertion of the fabric-reset line. -/
  | fabricReset (order : ResetOrder)
  /-- EXTERNAL_TICK (R28): a pulse on the slot tick line with the sampled zero mark. -/
  | externalTick (zeroMark : Bool) (order : TickOrder)
  /-- TICK_LOSS (R31): the loss timer reaches twice the slot length. `cause` says when the HOLDOVER cause is taken, and `order`
  is that of the first local tick. -/
  | tickLoss (cause : HoldoverOrder) (order : TickOrder)
  /-- LOCAL_TICK (R32): a slot length of local time has passed in HOLDOVER. -/
  | localTick (order : TickOrder)
  /-- DRAIN_CONFIRMED (R101). -/
  | drainConfirmed (c : Carrier)
  /-- DRAIN_DEADLINE (R102). -/
  | drainDeadline (c : Carrier)
  /-- BEACON_STARVED (R107). -/
  | beaconStarved (c : Carrier)
  /-- READY_NOTICE (R121). -/
  | readyNotice (c : Carrier)
  /-- CLOCK_SECOND_ADVANCE (R38). -/
  | clockSecondAdvance
  /-- WINDOW_BOUNDARY (R37): the boundary is taken by the Load Evaluator and the Report Unit. -/
  | windowBoundary
  /-- VERDICT_LIST (R24): the Carrier Controller takes the outstanding list, whole (`none`) or its first verdicts. -/
  | verdictList (upTo : Option Nat)
  /-- GENERATION_APPLICATION (R145): the Policy Loader's taking of the tick or boundary of R140. -/
  | generationApplication
  /-- UPSTREAM_REQUEST (R44): a request is presented on the upstream port (`some`), or the one already waiting there is given
  the turn (`none`). -/
  | upstreamRequest (request : Option Request)
  /-- POLICY_WRITE (R137): the policy master writes beats at 8 × `beat` within the policy region. -/
  | policyWrite (beat : BitVec 8) (data : List Beat)
  /-- HEARTBEAT_WRITE (R147): the policy master writes the heartbeat word. -/
  | heartbeatWrite (value : BitVec 32) (enables : BitVec 4)
  /-- CONSUMER_INDEX_WRITE (R139): the policy master writes the consumer index. -/
  | consumerIndexWrite (value : BitVec 16) (enables : BitVec 2)
  /-- CLOCK_SET_WRITE (R39): the policy master writes the clock-set word. -/
  | clockSetWrite (value : BitVec 32) (enables : BitVec 4)
  /-- KEEP_AWAKE_WRITE (R23): the policy master writes the keep-awake mask. -/
  | keepAwakeWrite (value : BitVec 24) (enables : BitVec 3)
  /-- DOWNSTREAM_RESPONSE (R52): a response returns on the downstream port. -/
  | downstreamResponse (status : ResponseStatus) (beats : List BeatData)
  /-- REPORT_GRANT (R56): the downstream slot is given to the oldest pending report write. -/
  | reportGrant
  /-- READY_RISE (R5): the ready line of a carrier changes from low to high. -/
  | readyRise (c : Carrier)
  /-- READY_FALL (R15): the ready line of a carrier changes from high to low. -/
  | readyFall (c : Carrier)
  /-- WARMUP_EXPIRY (R128). -/
  | warmupExpiry (c : Carrier)
  /-- SPACING_EXPIRY (R124). -/
  | spacingExpiry
  /-- GRANT (R26): the Carrier Controller takes the grant the arbiter made. -/
  | grant (c : Carrier)
  /-- DEMAND (R18): the Carrier Controller takes the oldest demand raised for the carrier. -/
  | demand (c : Carrier)
  /-- FAIL_SAFE_WAKE (R20). -/
  | failSafeWake (cause : FailSafe)
  /-- HEARTBEAT_LAPSE (R147). -/
  | heartbeatLapse
  deriving DecidableEq, Repr

end Sys2Proof
end

