-- ==== Sys2Proof/Decode.lean ====
section
/-! DEFINITION. The table decoder. No row of spec/opcode_table.json gives its command any bits ("fields" is empty in every
row and there is no "fixed"), so no word spells a command (notes/assumptions/26.md). -/

namespace Sys2Proof

/-- The command a word spells by the table's bits: none, for every word, since the table gives no row any bits. -/
def decodeTableWord (_nbits _w : Nat) : Option Instr := none

end Sys2Proof
end

