-- ==== Sys2Proof/Config.lean ====
section
/-! DEFINITION. The fixed sizes of the part, each stated by a rule of the spec. The spec leaves no value of an effect
open, so the configuration holds no free value. -/

namespace Sys2Proof.Config

/-- The in-flight list holds up to 32 entries (R51). -/
def inFlightLimit : Nat := 32

/-- The pending queue of the Report Unit holds up to 16 writes (R151). -/
def pendingLimit : Nat := 16

/-- The policy region and its mirror are 2048 bytes (R136). -/
def regionSize : Nat := 2048

/-- The largest light, sleep, minOn and drain elapsed count (R6 to R9). -/
def countLimit : Nat := 65535

/-- The largest drain empty-run count (R98). -/
def emptyRunLimit : Nat := 255

/-- The filtered load of a carrier taken as fully loaded, in load units (R79). -/
def fullLoad : Nat := 16000

/-- The last second of the day (R38). -/
def lastSecond : Nat := 86399

/-- The slot length in microseconds before the first application (R27). -/
def initialSlotLength : Nat := 1000

/-- The number of sectors (R1). -/
def sectorCount : Nat := 6

/-- The master number of the part's own writes (R56). -/
def ownMaster : Master := 7

end Sys2Proof.Config
end

