-- ==== Sys2Proof/Machine/State.lean ====
section
/-! DEFINITION. The state of the part, block by block, as plain data, and its value after power-on reset. -/

namespace Sys2Proof.Machine

/-- A buffer of addressed bytes: address and byte pairs with strictly rising addresses and no zero byte. An address that
is not listed reads as 0, the value of every mirror byte after power-on reset (R136). -/
abbrev Memory := List Host.Cell

/-- The eight states of a carrier (R3). -/
inductive CarrierState where
  | absent
  | on
  | draining
  | light
  | deep
  | queued
  | warming
  | faulted
  deriving DecidableEq, Repr

/-- The role of a present carrier (R1). -/
inductive Role where
  | capacity
  | anchor
  deriving DecidableEq, Repr

/-- The wake classes, highest first (section 1.7). -/
inductive WakeClass where
  | urgent
  | demand
  | load
  | routine
  deriving DecidableEq, Repr

/-- The 21 cause codes of a STATE record (section 9.2). -/
inductive Cause where
  | policy
  | lowLoad
  | drainConfirmed
  | drainDeadline
  | nightEnd
  | keepAwake
  | anchorOverload
  | anchorLost
  | heartbeatLapsed
  | holdover
  | fabricReset
  | readyLost
  | loadHigh
  | beaconStarved
  | deepen
  | demand
  | urgentDemand
  | grant
  | ready
  | warmupElapsed
  | warmupTimeout
  deriving DecidableEq, Repr

/-- The two thresholds of an anchor, in per-mille (R1, R86). -/
structure AnchorLimits where
  cAdm : Nat
  cOvl : Nat
  deriving DecidableEq, Repr

/-- The structural and tunable values of one carrier (R1), in the units of the policy region (R161). `limits` is present
for an anchor and absent for a capacity carrier. -/
structure CarrierValues where
  present : Bool
  role : Role
  sector : Nat
  rbMax : Nat
  windowSizeCode : Nat
  windowBase : Nat
  supplyHigh : Bool
  keyHigh : Bool
  sensing : Bool
  sleepEnable : Bool
  deepEnable : Bool
  weight : Nat
  warmupTimeout : Nat
  tSleep : Nat
  tWake : Nat
  tDeep : Nat
  limits : Option AnchorLimits
  minOn : Nat
  minSleep : Nat
  lightDwell : Nat
  deriving DecidableEq, Repr

/-- The values of a carrier that is not present: none (R2). -/
def CarrierValues.cleared : CarrierValues :=
  { present := false, role := .capacity, sector := 0, rbMax := 0, windowSizeCode := 0, windowBase := 0
    supplyHigh := false, keyHigh := false, sensing := false, sleepEnable := false, deepEnable := false
    weight := 0, warmupTimeout := 0, tSleep := 0, tWake := 0, tDeep := 0, limits := none
    minOn := 0, minSleep := 0, lightDwell := 0 }

/-- The globals of a policy (R161). -/
structure Globals where
  slotCode : Nat
  k : Nat
  scheduler : Master
  fronthaul : Master
  w : Nat
  budgetLimit : Nat
  spacing : Nat
  heartbeatCode : Nat
  attention : Bool
  ringCapacity : Nat
  drainConfirm : Nat
  drainBackoff : Nat
  drainLimit : Nat
  nightStart : Nat
  nightEnd : Nat
  beaconDeadline : Nat
  reportSizeCode : Nat
  reportBase : Nat
  deriving DecidableEq, Repr

/-- One policy: the globals and the 24 carrier entries (R136). -/
structure Policy where
  globals : Globals
  entries : Table CarrierValues
  deriving DecidableEq, Repr

/-- One record of the carrier table (R1). The lines of the carrier follow from it (R4): `keyed` is the level of the key
line in LIGHT, active or inactive, chosen by the last slot retired there (R106). -/
structure CarrierRecord where
  values : CarrierValues
  state : CarrierState
  queuedClass : Option WakeClass
  keyed : Bool
  minOnCount : Nat
  sleepCount : Option Nat
  lightCount : Nat
  beaconCount : Nat
  emptyRun : Nat
  drainElapsed : Nat
  warmupElapsed : Nat
  backoff : Nat
  deriving DecidableEq, Repr

/-- The record of a carrier that is not present (R2). -/
def CarrierRecord.vacant : CarrierRecord :=
  { values := .cleared, state := .absent, queuedClass := none, keyed := false, minOnCount := 0, sleepCount := none
    lightCount := 0, beaconCount := 0, emptyRun := 0, drainElapsed := 0, warmupElapsed := 0, backoff := 0 }

/-- The Carrier Controller: the carrier table (R1). -/
structure CarrierController where
  records : Table CarrierRecord
  deriving DecidableEq, Repr

/-- The states of the Slot Timer (R27). -/
inductive TimerState where
  | unsynced
  | locked
  | holdover
  deriving DecidableEq, Repr

/-- The states of the heartbeat (R136). -/
inductive HeartbeatState where
  | alive
  | lapsed
  deriving DecidableEq, Repr

/-- What the night predicate takes from the generation in force during the window that ends, and from the heartbeat as it
stood before an application at the same boundary (R40). -/
structure NightHold where
  nightStart : Nat
  nightEnd : Nat
  heartbeat : HeartbeatState
  deriving DecidableEq, Repr

/-- The Slot Timer (R27). `lossTimer` is the local time in microseconds since it was last restarted. `holdover` is `none`
while the holdover generator is stopped and else the local time in microseconds to its next tick. `nightHold` is present
between an application at a boundary and the night question of that boundary, where the application came first (R40). -/
structure SlotTimer where
  state : TimerState
  slot : Slot
  lossTimer : Nat
  holdover : Option Nat
  windowTicks : Nat
  windowNumber : Word32
  clean : Bool
  seconds : Nat
  clockSet : Bool
  subSecond : Nat
  nightHold : Option NightHold
  deriving DecidableEq, Repr

/-- A window of the window table: its window index, base and size in bytes (R46). -/
structure Window where
  index : Nat
  base : Nat
  size : Nat
  deriving DecidableEq, Repr

/-- The three forms of a report write (R151), as the identity an OWN in-flight entry carries (R51). -/
inductive ReportForm where
  | ringRecord
  | statusBlock
  | producerUpdate
  deriving DecidableEq, Repr

/-- The origin of an in-flight entry (R51). -/
inductive Origin where
  | upstream
  | own (form : ReportForm)
  deriving DecidableEq, Repr

/-- The disposition of an in-flight entry (R51). -/
inductive Disposition where
  | forwarded
  | localAnswer
  deriving DecidableEq, Repr

/-- The mark of one beat of a marked read (R53). -/
inductive BlankMark where
  | first
  | later
  deriving DecidableEq, Repr

/-- One in-flight entry (R51). `master` and `count` are those of the request: its answer goes to that master, and a local
answer to a READ carries one beat for each counted beat (R48). -/
structure InFlight where
  origin : Origin
  kind : AccessKind
  disposition : Disposition
  abandoned : Bool
  mask : Option (List BlankMark)
  master : Master
  count : Nat
  deriving DecidableEq, Repr

/-- The two sides of the downstream arbiter (R55). -/
inductive Side where
  | upstream
  | report
  deriving DecidableEq, Repr

/-- The Transit Path. `waiting` are the requests presented on the upstream port and not yet taken, the first of them at the
port (R44). `owedAnswers` counts the requests sent downstream before a power-on reset of the part and not yet answered
(R43): while it is not 0 the downstream port accepts nothing. -/
structure TransitPath where
  policyBase : Nat
  policyMaster : Master
  windows : List Window
  scheduler : Option Master
  fronthaul : Option Master
  inFlight : List InFlight
  turn : Side
  waiting : List Request
  owedAnswers : Nat
  deriving DecidableEq, Repr

/-- One held descriptor (R59). -/
structure Held where
  tag : Slot
  rb : Nat
  beacon : Bool
  deriving DecidableEq, Repr

/-- The Descriptor Monitor: one held list per carrier, the next slot to begin first (R59). -/
structure DescriptorMonitor where
  held : Table (List Held)
  deriving DecidableEq, Repr

/-- The figures of one carrier (R78). -/
structure Figures where
  windowSum : Nat
  measured : Nat
  lastU : Nat
  load : Nat
  lightSlots : Nat
  offSlots : Nat
  latchedLight : Nat
  latchedOff : Nat
  deriving DecidableEq, Repr

/-- All figures 0 (R78). -/
def Figures.zero : Figures :=
  { windowSum := 0, measured := 0, lastU := 0, load := 0, lightSlots := 0, offSlots := 0, latchedLight := 0, latchedOff := 0 }

/-- The window parameters (R87). Of a carrier's values the procedure reads only those R87 lists. -/
structure WindowParams where
  w : Nat
  k : Nat
  entries : Table CarrierValues
  deriving DecidableEq, Repr

/-- The Load Evaluator (R78, R87). `pendingParams` are the parameters kept back until the procedure of the window that ends
has been run. -/
structure LoadEvaluator where
  figures : Table Figures
  params : Option WindowParams
  pendingParams : Option WindowParams
  lastEvaluated : Word32
  deriving DecidableEq, Repr

/-- One entry of the wake queue (R115). -/
structure WakeEntry where
  carrier : Carrier
  cls : WakeClass
  ordinal : Nat
  deriving DecidableEq, Repr

/-- The Warm-up Arbiter (R115). The budget in use is the sum of the charged weights. -/
structure WarmupArbiter where
  queue : List WakeEntry
  charged : List (Carrier × Nat)
  spacing : Nat
  ordinal : Nat
  deriving DecidableEq, Repr

/-- The Policy Loader (R136). `heartbeatTimer` is `none` while the timer is stopped. -/
structure PolicyLoader where
  mirror : Memory
  applied : Option Policy
  lastApplied : Word32
  lastRefused : Word32
  heartbeat : HeartbeatState
  heartbeatTimer : Option Nat
  deriving DecidableEq, Repr

/-- The eleven fault kinds (section 9.2). -/
inductive FaultKind where
  | reservedMaster
  | blockCross
  | foreignPolicy
  | reportWrite
  | partialDescriptor
  | misfiledDescriptor
  | unsyncedDescriptor
  | lateDescriptor
  | earlyDescriptor
  | clockRange
  | consumerRange
  deriving DecidableEq, Repr

/-- One fault as handed to the fault latch (R48, R68, R157). `window` is `none` for no window. -/
structure BusFault where
  kinds : List FaultKind
  master : Master
  kind : AccessKind
  address : Address
  window : Option Nat
  deriving DecidableEq, Repr

/-- The contents of a full fault latch (R157). -/
structure LatchedFault where
  fault : BusFault
  more : Bool
  deriving DecidableEq, Repr

/-- The eighteen clamp names (R144). -/
inductive ClampName where
  | slotLength
  | w
  | k
  | heartbeat
  | nightStart
  | nightEnd
  | drainConfirm
  | drainLimit
  | beaconDeadline
  | rbMax
  | weight
  | warmupTimeout
  | tSleep
  | tWake
  | tDeep
  | cAdm
  | cOvl
  | budgetLimit
  deriving DecidableEq, Repr

/-- The eight reasons of refusal (R141). -/
inductive RefusalReason where
  | masterClash
  | sectorRange
  | anchorCount
  | windowShape
  | windowOverlap
  | ringShape
  | busyCarrier
  | busySector
  deriving DecidableEq, Repr

/-- The values of a TIMING record (section 9.2). -/
inductive TimingValue where
  | locked
  | holdover
  | slip
  deriving DecidableEq, Repr

/-- The kinds of record with their bodies (section 9.2). -/
inductive RecordBody where
  | stateChange (c : Carrier) (left entered : CarrierState) (cause : Cause) (cls : Option WakeClass)
  | policyApplied (generation : Word32) (names : List ClampName)
  | policyRefused (generation : Word32) (reason : RefusalReason) (index : Nat)
  | faultReport (latched : LatchedFault)
  | timing (value : TimingValue)
  | heartbeat (value : HeartbeatState)
  | fabricReset
  deriving DecidableEq, Repr

/-- A record as made: the Slot Timer's values of the header (section 9.2) and the body. -/
structure Record where
  window : Word32
  seconds : Nat
  slot : Slot
  body : RecordBody
  deriving DecidableEq, Repr

/-- A pending report write (R151). A ring record carries the GAP field it took at admission (R152). A status-block write
carries the address and data fixed at forming (R156). -/
inductive ReportWrite where
  | ringRecord (gap : Bool) (record : Record)
  | statusBlock (address : Address) (beats : List BeatData)
  | producerUpdate
  deriving DecidableEq, Repr

/-- The ring and report window of the applied policy (R150). -/
structure Ring where
  base : Nat
  sizeCode : Nat
  capacity : Nat
  deriving DecidableEq, Repr

/-- The Report Unit (R150). `inFlightRecords` are the ring record writes granted and not yet answered, oldest first, each
`true` while live and `false` once void. -/
structure ReportUnit where
  ring : Option Ring
  pending : List ReportWrite
  updateOwed : Bool
  producer : BitVec 16
  consumer : BitVec 16
  gap : Bool
  inFlightRecords : List Bool
  latch : Option LatchedFault
  deriving DecidableEq, Repr

/-- A response given on the upstream port, with the master it goes to (R52). -/
structure Answer where
  master : Master
  status : ResponseStatus
  beats : List BeatData
  deriving DecidableEq, Repr

/-- What the outside sees and drives: the levels of the ready lines (R5), the requests the part has sent downstream and the
responses it has given upstream, oldest first. The two lists are the model's own record of the part's outputs. -/
structure Outside where
  readyHigh : Table Bool
  sentDownstream : List Request
  givenUpstream : List Answer
  deriving DecidableEq, Repr

/-- The five verdict kinds (R24). -/
inductive VerdictKind where
  | drain
  | deepen
  | cancelDrain
  | wakeLight
  | wakeDeep
  deriving DecidableEq, Repr

/-- One verdict (R24). `cls` is the class of a WAKE_DEEP. -/
structure Verdict where
  carrier : Carrier
  kind : VerdictKind
  cause : Cause
  cls : WakeClass
  deriving DecidableEq, Repr

/-- An event that one block has handed another and that has not been taken yet. -/
inductive Due where
  /-- The sub-second count has reached the slots per second (R38). -/
  | clockSecond
  /-- The empty run has reached drainConfirm (R100); `beacon` is that of the confirming slot (R101). -/
  | drainConfirmed (c : Carrier) (beacon : Bool)
  /-- The drain elapsed counter has reached drainLimit (R100). -/
  | drainDeadline (c : Carrier)
  /-- The beacon counter has reached the beacon deadline (R107). -/
  | beaconStarved (c : Carrier)
  /-- The heartbeat timer has reached its period (R147). -/
  | heartbeatLapse
  /-- The sleep counter of a queued carrier has reached its minSleep (R121). -/
  | readyNotice (c : Carrier)
  /-- The warm-up elapsed counter has reached the warm-up timeout (R128). -/
  | warmupExpiry (c : Carrier)
  /-- The spacing timer has counted from 1 to 0 (R124). -/
  | spacingExpiry
  /-- A boundary: the window that ends, its clean flag, and whether the boundary tick is locked (R37). -/
  | boundary (window : Word32) (clean : Bool) (locked : Bool)
  /-- A tick or boundary at which the Policy Loader looks for a staged generation (R140). -/
  | generation
  /-- A verdict list; `fresh` while its backoff decrement has not been made (R89). -/
  | verdicts (fresh : Bool) (list : List Verdict)
  /-- A grant made at the arbiter (R123). -/
  | grant (c : Carrier)
  /-- A demand raised at a holding (R71). -/
  | demand (c : Carrier) (urgent : Bool)
  /-- A fail-safe cause (R20). -/
  | failSafe (cause : FailSafe)
  /-- Tick loss detected at an application (R30). -/
  | tickLoss
  deriving DecidableEq, Repr

/-- The whole state of the part. `due` holds the events handed between blocks and not yet taken, oldest first. `pending`
is the queue of commands waiting, first in, first out. -/
structure State where
  controller : CarrierController
  timer : SlotTimer
  transit : TransitPath
  monitor : DescriptorMonitor
  evaluator : LoadEvaluator
  arbiter : WarmupArbiter
  loader : PolicyLoader
  report : ReportUnit
  outside : Outside
  due : List Due
  pending : List Instr
  deriving DecidableEq, Repr

/-- The block has no fault: every event the spec names is given an effect in every state, so no command stops the machine
(notes/assumptions/30.md). Safe: nothing is left out by it. -/
inductive Fault where
  deriving DecidableEq, Repr

/-- Why a command has no meaning. -/
inductive Refusal where
  /-- Raised by an arm of `exec` whose command has not been modelled; no arm raises it. Safe: the machine stops. -/
  | notModelled (mnemonic : String)
  deriving DecidableEq, Repr

/-- The carrier table after power-on reset (R2). -/
def CarrierController.reset : CarrierController :=
  { records := tabulate fun _ => .vacant }

/-- The Slot Timer after power-on reset (R27). -/
def SlotTimer.reset : SlotTimer :=
  { state := .unsynced, slot := 0, lossTimer := 0, holdover := none, windowTicks := 0, windowNumber := 0, clean := true
    seconds := 0, clockSet := false, subSecond := 0, nightHold := none }

/-- The Transit Path after power-on reset with the straps at the levels given (R43). -/
def TransitPath.reset (strapBase : BitVec 20) (strapMaster : Master) : TransitPath :=
  { policyBase := strapBase.toNat * 1048576, policyMaster := strapMaster
    windows := [{ index := 24, base := strapBase.toNat * 1048576, size := Config.regionSize }]
    scheduler := none, fronthaul := none, inFlight := [], turn := .report, waiting := [], owedAnswers := 0 }

/-- The Descriptor Monitor after power-on reset (R59). -/
def DescriptorMonitor.reset : DescriptorMonitor :=
  { held := tabulate fun _ => [] }

/-- The Load Evaluator after power-on reset (R78). -/
def LoadEvaluator.reset : LoadEvaluator :=
  { figures := tabulate fun _ => .zero, params := none, pendingParams := none, lastEvaluated := 0 }

/-- The Warm-up Arbiter after power-on reset (R115). -/
def WarmupArbiter.reset : WarmupArbiter :=
  { queue := [], charged := [], spacing := 0, ordinal := 0 }

/-- The Policy Loader after power-on reset (R136). -/
def PolicyLoader.reset : PolicyLoader :=
  { mirror := [], applied := none, lastApplied := 0, lastRefused := 0, heartbeat := .alive, heartbeatTimer := none }

/-- The Report Unit after power-on reset (R150). -/
def ReportUnit.reset : ReportUnit :=
  { ring := none, pending := [], updateOwed := false, producer := 0, consumer := 0, gap := false, inFlightRecords := []
    latch := none }

/-- The machine right after power-on reset, with all straps and all ready lines low and nothing presented
(DESIGN CHOICE, notes/assumptions/11.md). -/
def State.reset : State :=
  { controller := .reset, timer := .reset, transit := .reset 0 0, monitor := .reset, evaluator := .reset
    arbiter := .reset, loader := .reset, report := .reset
    outside := { readyHigh := tabulate fun _ => false, sentDownstream := [], givenUpstream := [] }
    due := [], pending := [] }

end Sys2Proof.Machine
end

