-- ==== Sys2Proof/Machine/Operands.lean ====
section
/-! DEFINITION. The formats the part reads: bytes of the mirror, beats, the descriptor first beat, the policy region
(10_record_and_field_layouts.md), and the blanked form of a beat. -/

namespace Sys2Proof.Machine

/-! ### The mirror as addressed bytes -/

/-- The byte at an address; an unlisted one is 0 (R136). -/
def Memory.read : Memory → Nat → Byte
  | [], _ => 0
  | (k, b) :: rest, a => if k = a then b else Memory.read rest a

/-- The buffer with one byte replaced, in canonical form. -/
def Memory.write : Memory → Nat → Byte → Memory
  | [], a, b => if b = 0 then [] else [(a, b)]
  | (k, v) :: rest, a, b =>
    if a < k then (if b = 0 then (k, v) :: rest else (a, b) :: (k, v) :: rest)
    else if a = k then (if b = 0 then rest else (a, b) :: rest)
    else (k, v) :: Memory.write rest a b

/-- Every address listed lies at or above `low`, the addresses rise strictly, and no byte listed is 0. -/
def Memory.wfFrom : Nat → Memory → Bool
  | _, [] => true
  | low, (k, b) :: rest => decide (low ≤ k) && (b != 0) && Memory.wfFrom (k + 1) rest

/-- The canonical form. -/
def Memory.wf (m : Memory) : Bool := Memory.wfFrom 0 m

/-- The unsigned integer of `width` bytes from `a`, least significant byte first (10_record_and_field_layouts.md). -/
def Memory.readNat (m : Memory) (a : Nat) : Nat → Nat
  | 0 => 0
  | width + 1 => (m.read a).toNat + 256 * Memory.readNat m (a + 1) width

/-- Bit `i` of the byte at `a`. -/
def Memory.flag (m : Memory) (a i : Nat) : Bool := (m.read a).getLsbD i

/-! ### Beats -/

/-- Byte `j` of a beat's data: the one at the beat's address plus `j`. -/
def beatByte (d : BeatData) (j : Nat) : Byte := d.extractLsb' (8 * j) 8

/-- The buffer with byte `j` of the beat at `a` merged if its enable is set (R137). -/
def mergeByte (m : Memory) (a : Nat) (b : Beat) (j : Nat) : Memory :=
  if b.enables.getLsbD j then m.write (a + j) (beatByte b.data j) else m

/-- The buffer with one beat merged at `a` by its byte enables (R137). -/
def mergeBeat (m : Memory) (a : Nat) (b : Beat) : Memory :=
  [0, 1, 2, 3, 4, 5, 6, 7].foldl (fun m j => mergeByte m a b j) m

/-- The buffer with the beats merged in ascending offset order from `a` (R137). -/
def mergeBeats : Memory → Nat → List Beat → Memory
  | m, _, [] => m
  | m, a, b :: rest => mergeBeats (mergeBeat m a b) (a + 8) rest

/-- Some enabled byte of the beats written from `a` lies in the `width` bytes from `low` (R138). -/
def touches : Nat → List Beat → Nat → Nat → Bool
  | _, [], _, _ => false
  | a, b :: rest, low, width =>
    [0, 1, 2, 3, 4, 5, 6, 7].any (fun j => b.enables.getLsbD j && decide (low ≤ a + j) && decide (a + j < low + width))
      || touches (a + 8) rest low width

/-- A beat holding `value` in its bytes from `at_`, with the enables of those bytes and every other byte disabled. -/
def wordBeat (at_ : Nat) (value enables : Nat) : Beat :=
  { data := BitVec.ofNat 64 (value * 2 ^ (8 * at_)), enables := BitVec.ofNat 8 (enables * 2 ^ at_) }

/-! ### The descriptor first beat (R60, R160) -/

/-- The format code, bits 0 to 3. -/
def descFormat (d : BeatData) : Nat := (d.extractLsb' 0 4).toNat

/-- The tag, bits 4 to 15. -/
def descTag (d : BeatData) : Slot := d.extractLsb' 4 12

/-- The carrier field, bits 16 to 20. -/
def descCarrier (d : BeatData) : Nat := (d.extractLsb' 16 5).toNat

/-- The RB field, bits 21 to 29. -/
def descRb (d : BeatData) : Nat := (d.extractLsb' 21 9).toNat

/-- The BEACON flag, bit 30. -/
def descBeacon (d : BeatData) : Bool := d.getLsbD 30

/-- The URGENT flag, bit 31. -/
def descUrgent (d : BeatData) : Bool := d.getLsbD 31

/-- The lead distance of a tag from the slot counter, modulo 4096 (R67). -/
def leadDistance (tag slot : Slot) : Nat := (tag - slot).toNat

/-- A beat rewritten by its mark: FIRST clears bits 21 to 31, LATER clears all (R54, R160). -/
def blankBeat (mark : BlankMark) (d : BeatData) : BeatData :=
  match mark with
  | .first => d &&& ~~~(0x7FF#64 <<< 21)
  | .later => 0

/-! ### The policy region (R161) -/

/-- A master field: bits 0 to 2 of its byte. -/
def Memory.masterAt (m : Memory) (a : Nat) : Master := (m.read a).extractLsb' 0 3

/-- An address field: bits 0 to 39 of its 8 bytes. -/
def Memory.addressAt (m : Memory) (a : Nat) : Nat := m.readNat a 5

/-- The generation word. -/
def mirrorGeneration (m : Memory) : Word32 := BitVec.ofNat 32 (m.readNat 0x000 4)

/-- The consumer index. -/
def mirrorConsumer (m : Memory) : BitVec 16 := BitVec.ofNat 16 (m.readNat 0x008 2)

/-- The clock-set word. -/
def mirrorClockSet (m : Memory) : Nat := m.readNat 0x00C 4

/-- The keep-awake bit of a carrier. -/
def mirrorKeepAwake (m : Memory) (c : Carrier) : Bool := m.flag (0x010 + c.val / 8) (c.val % 8)

/-- The globals as the mirror holds them. -/
def readGlobals (m : Memory) : Globals :=
  { slotCode := m.readNat 0x040 1
    k := m.readNat 0x041 1
    scheduler := m.masterAt 0x042
    fronthaul := m.masterAt 0x043
    w := m.readNat 0x044 2
    budgetLimit := m.readNat 0x046 1
    spacing := m.readNat 0x047 1
    heartbeatCode := m.readNat 0x048 1
    attention := m.flag 0x049 0
    ringCapacity := m.readNat 0x04A 2
    drainConfirm := m.readNat 0x04C 1
    drainBackoff := m.readNat 0x04D 1
    drainLimit := m.readNat 0x04E 2
    nightStart := m.readNat 0x050 4
    nightEnd := m.readNat 0x054 4
    beaconDeadline := m.readNat 0x058 2
    reportSizeCode := m.readNat 0x05A 1
    reportBase := m.addressAt 0x060 }

/-- The offset of a carrier entry. -/
def entryOffset (c : Carrier) : Nat := 0x100 + 64 * c.val

/-- The role named by a carrier entry's flag byte. -/
def roleAt (m : Memory) (a : Nat) : Role := if m.flag a 1 then .anchor else .capacity

/-- A carrier entry as the mirror holds it. An entry marked not present is not read further (R141), and the admission
thresholds are read for an anchor alone. -/
def readEntry (m : Memory) (c : Carrier) : CarrierValues :=
  let a := entryOffset c
  if m.flag a 0 then
    { present := true
      role := roleAt m a
      sector := m.readNat (a + 0x01) 1
      rbMax := m.readNat (a + 0x02) 2
      windowSizeCode := m.readNat (a + 0x04) 1
      windowBase := m.addressAt (a + 0x08)
      supplyHigh := m.flag a 2
      keyHigh := m.flag a 3
      sensing := m.flag a 4
      sleepEnable := m.flag a 5
      deepEnable := m.flag a 6
      weight := m.readNat (a + 0x05) 1
      warmupTimeout := m.readNat (a + 0x06) 2
      tSleep := m.readNat (a + 0x10) 2
      tWake := m.readNat (a + 0x12) 2
      tDeep := m.readNat (a + 0x14) 2
      limits := if m.flag a 1 then some { cAdm := m.readNat (a + 0x16) 2, cOvl := m.readNat (a + 0x18) 2 } else none
      minOn := m.readNat (a + 0x1A) 2
      minSleep := m.readNat (a + 0x1C) 2
      lightDwell := m.readNat (a + 0x1E) 2 }
  else .cleared

/-- The policy the mirror holds, before clamping. -/
def readPolicy (m : Memory) : Policy :=
  { globals := readGlobals m, entries := tabulate (readEntry m) }

/-- A size code gives a window of 4 KiB × 2^code (R141). -/
def windowBytes (sizeCode : Nat) : Nat := 4096 * 2 ^ sizeCode

/-- The slot length in microseconds of a slot length code (R27). -/
def slotLengthOf (code : Nat) : Nat := 1000 / 2 ^ code

/-- The slots per second of a slot length code (R27). -/
def slotsPerSecondOf (code : Nat) : Nat := 1000 * 2 ^ code

end Sys2Proof.Machine
end

