-- ==== Sys2Proof/Machine/Flags.lean ====
section
/-! DEFINITION. The codes and bit sets of the report window (R162, R163): how states, classes, causes, faults, records and
the status block are encoded. -/

namespace Sys2Proof.Machine

/-- The code of a carrier state (R162). -/
def CarrierState.code : CarrierState → Nat
  | .absent => 0
  | .on => 1
  | .draining => 2
  | .light => 3
  | .deep => 4
  | .queued => 5
  | .warming => 6
  | .faulted => 7

/-- The code of a wake class, which is also its rank from the highest down (R162, section 1.7). -/
def WakeClass.rank : WakeClass → Nat
  | .urgent => 0
  | .demand => 1
  | .load => 2
  | .routine => 3

/-- The class field: 0 where there is no queued class (R162). -/
def classCode (cls : Option WakeClass) : Nat :=
  match cls with
  | some k => k.rank
  | none => 0

/-- The cause codes 1 to 21 (R163). -/
def Cause.code : Cause → Nat
  | .policy => 1
  | .lowLoad => 2
  | .drainConfirmed => 3
  | .drainDeadline => 4
  | .nightEnd => 5
  | .keepAwake => 6
  | .anchorOverload => 7
  | .anchorLost => 8
  | .heartbeatLapsed => 9
  | .holdover => 10
  | .fabricReset => 11
  | .readyLost => 12
  | .loadHigh => 13
  | .beaconStarved => 14
  | .deepen => 15
  | .demand => 16
  | .urgentDemand => 17
  | .grant => 18
  | .ready => 19
  | .warmupElapsed => 20
  | .warmupTimeout => 21

/-- The reason codes 1 to 8 (R163). -/
def RefusalReason.code : RefusalReason → Nat
  | .masterClash => 1
  | .sectorRange => 2
  | .anchorCount => 3
  | .windowShape => 4
  | .windowOverlap => 5
  | .ringShape => 6
  | .busyCarrier => 7
  | .busySector => 8

/-- The bit of a fault kind (R163). -/
def FaultKind.bit : FaultKind → Nat
  | .reservedMaster => 0
  | .blockCross => 1
  | .foreignPolicy => 2
  | .reportWrite => 3
  | .partialDescriptor => 4
  | .misfiledDescriptor => 5
  | .unsyncedDescriptor => 6
  | .lateDescriptor => 7
  | .earlyDescriptor => 8
  | .clockRange => 9
  | .consumerRange => 10

/-- The bit of a clamp name (R163). -/
def ClampName.bit : ClampName → Nat
  | .slotLength => 0
  | .w => 1
  | .k => 2
  | .heartbeat => 3
  | .nightStart => 4
  | .nightEnd => 5
  | .drainConfirm => 6
  | .drainLimit => 7
  | .beaconDeadline => 8
  | .rbMax => 9
  | .weight => 10
  | .warmupTimeout => 11
  | .tSleep => 12
  | .tWake => 13
  | .tDeep => 14
  | .cAdm => 15
  | .cOvl => 16
  | .budgetLimit => 17

/-- A set of bits as the number that has them set. -/
def bitSet (bits : List Nat) : Nat := bits.foldl (fun acc i => acc ||| 2 ^ i) 0

/-- The fault kind set field (R163). -/
def faultKindSet (kinds : List FaultKind) : Nat := bitSet (kinds.map FaultKind.bit)

/-- The clamped-name set field (R163). -/
def clampNameSet (names : List ClampName) : Nat := bitSet (names.map ClampName.bit)

/-- The access bit (R163). -/
def accessCode : AccessKind → Nat
  | .read => 0
  | .write => 1

/-- A flag as a bit. -/
def flagBit (b : Bool) : Nat := if b then 1 else 0

/-- The codes of a TIMING record (R163). -/
def TimingValue.code : TimingValue → Nat
  | .locked => 1
  | .holdover => 2
  | .slip => 3

/-- The codes of a HEARTBEAT record (R163). -/
def HeartbeatState.recordCode : HeartbeatState → Nat
  | .lapsed => 1
  | .alive => 2

/-- The heartbeat field of the status block (R162). -/
def HeartbeatState.statusCode : HeartbeatState → Nat
  | .alive => 0
  | .lapsed => 1

/-- The Slot Timer field of the status block (R162). -/
def TimerState.code : TimerState → Nat
  | .unsynced => 0
  | .locked => 1
  | .holdover => 2

/-- The kind of a record (R162). -/
def RecordBody.kindCode : RecordBody → Nat
  | .stateChange .. => 1
  | .policyApplied .. => 2
  | .policyRefused .. => 3
  | .faultReport _ => 4
  | .timing _ => 5
  | .heartbeat _ => 6
  | .fabricReset => 7

/-- The carrier field of a record: the carrier of a STATE record, else 0xFF (section 9.2). -/
def RecordBody.carrierCode : RecordBody → Nat
  | .stateChange c _ _ _ _ => c.val
  | _ => 0xFF

/-- A beat whose fields are given as a byte offset within the beat and a value that fits the field. -/
def packBeat (fields : List (Nat × Nat)) : BeatData :=
  BitVec.ofNat 64 (fields.foldl (fun acc f => acc ||| f.2 * 2 ^ (8 * f.1)) 0)

/-- Bytes 0x10 to 0x17 of a record (R163). -/
def RecordBody.thirdBeat : RecordBody → BeatData
  | .stateChange _ left entered cause cls =>
    packBeat [(0, left.code), (1, entered.code), (2, cause.code), (3, classCode cls)]
  | .policyApplied generation names => packBeat [(0, generation.toNat), (4, clampNameSet names)]
  | .policyRefused generation reason index => packBeat [(0, generation.toNat), (4, reason.code), (5, index)]
  | .faultReport l =>
    packBeat [(0, faultKindSet l.fault.kinds), (2, l.fault.master.toNat), (3, accessCode l.fault.kind + 2 * flagBit l.more),
      (4, l.fault.window.getD 0xFF)]
  | .timing value => packBeat [(0, value.code)]
  | .heartbeat value => packBeat [(0, value.recordCode)]
  | .fabricReset => 0

/-- Bytes 0x18 to 0x1F of a record: the address of a FAULT record, else zero (R163). -/
def RecordBody.fourthBeat : RecordBody → BeatData
  | .faultReport l => packBeat [(0, l.fault.address.toNat)]
  | _ => 0

/-- The four beats of a record with its GAP field (R162, R163). -/
def encodeRecord (gap : Bool) (r : Record) : List BeatData :=
  [packBeat [(0, r.body.kindCode), (1, flagBit gap), (2, r.body.carrierCode), (4, r.window.toNat)],
   packBeat [(0, r.seconds), (4, r.slot.toNat)],
   r.body.thirdBeat, r.body.fourthBeat]

/-- The status block entry of a carrier (R162). -/
def encodeEntry (state : CarrierState) (cls : Option WakeClass) (f : Figures) : BeatData :=
  BitVec.ofNat 64 (state.code + classCode cls * 2 ^ 4 + f.load * 2 ^ 6 + f.lastU * 2 ^ 20 + f.latchedLight * 2 ^ 32
    + f.latchedOff * 2 ^ 48)

end Sys2Proof.Machine
end

