-- ==== Sys2Proof/Machine/Ops.lean ====
section
/-! DEFINITION. The shared operations: reading and writing the tables, the derived lines, handing records and faults to
the Report Unit, the wake queue and its grants, and the transitions of a carrier. -/

namespace Sys2Proof.Machine

/-! ### Reading and writing the tables -/

/-- The record of a carrier (R1). -/
def State.carrier (s : State) (c : Carrier) : CarrierRecord := s.controller.records.get c

/-- The state with one carrier record replaced. -/
def State.setCarrier (s : State) (c : Carrier) (r : CarrierRecord) : State :=
  { s with controller := { records := tablePut s.controller.records c r } }

/-- The figures of a carrier (R78). -/
def State.figures (s : State) (c : Carrier) : Figures := s.evaluator.figures.get c

/-- The state with the figures of one carrier replaced. -/
def State.setFigures (s : State) (c : Carrier) (f : Figures) : State :=
  { s with evaluator := { s.evaluator with figures := tablePut s.evaluator.figures c f } }

/-- The held list of a carrier (R59). -/
def State.held (s : State) (c : Carrier) : List Held := s.monitor.held.get c

/-- The state with one held list replaced. -/
def State.setHeld (s : State) (c : Carrier) (l : List Held) : State :=
  { s with monitor := { held := tablePut s.monitor.held c l } }

/-- The level of a ready line: true for high (R5). -/
def State.readyLevel (s : State) (c : Carrier) : Bool := s.outside.readyHigh.get c

/-- The state with the level of one ready line replaced. -/
def State.setReady (s : State) (c : Carrier) (high : Bool) : State :=
  { s with outside := { s.outside with readyHigh := tablePut s.outside.readyHigh c high } }

/-- The globals before the first application: none in force. No rule reads them then but for the slot length, whose value
before the first policy R27 gives (notes/assumptions/25.md). -/
def Globals.unset : Globals :=
  { slotCode := 0, k := 0, scheduler := 0, fronthaul := 0, w := 0, budgetLimit := 0, spacing := 0, heartbeatCode := 0
    attention := false, ringCapacity := 0, drainConfirm := 0, drainBackoff := 0, drainLimit := 0, nightStart := 0
    nightEnd := 0, beaconDeadline := 0, reportSizeCode := 0, reportBase := 0 }

/-- The globals of the applied policy. -/
def State.globals (s : State) : Globals :=
  match s.loader.applied with
  | some p => p.globals
  | none => .unset

/-- The slot length in force, in microseconds: 1000 before the first application (R27). -/
def State.slotLength (s : State) : Nat :=
  match s.loader.applied with
  | some p => slotLengthOf p.globals.slotCode
  | none => Config.initialSlotLength

/-- The slots per second in force: 1000 before the first application (R27). -/
def State.slotsPerSecond (s : State) : Nat :=
  match s.loader.applied with
  | some p => slotsPerSecondOf p.globals.slotCode
  | none => 1000

/-- The keep-awake bit of a carrier, read from the mirror (R1). -/
def State.keepAwake (s : State) (c : Carrier) : Bool := mirrorKeepAwake s.loader.mirror c

/-- One more, staying at the limit once it is reached (R6 to R9). -/
def countUp (limit n : Nat) : Nat := if n < limit then n + 1 else n

/-- The state with an event added to those outstanding. -/
def State.addDue (s : State) (d : Due) : State := { s with due := s.due ++ [d] }

/-! ### The lines, as the states of the blocks give them -/

/-- What the part drives on a line (00_scope.md, Lines). -/
inductive LineDrive where
  | released
  | low
  | high
  deriving DecidableEq, Repr

/-- A line driven active or inactive, given its active level. -/
def driveLine (activeHigh active : Bool) : LineDrive := if activeHigh == active then .high else .low

/-- The supply line is active but in DEEP, QUEUED and ABSENT (R4). -/
def supplyActive (state : CarrierState) : Bool :=
  match state with
  | .on | .draining | .light | .warming | .faulted => true
  | .deep | .queued | .absent => false

/-- The key line is active in ON, in DRAINING, and in LIGHT as the last retired slot chose (R4, R106). -/
def keyActive (r : CarrierRecord) : Bool :=
  match r.state with
  | .on | .draining => true
  | .light => r.keyed
  | .deep | .queued | .warming | .faulted | .absent => false

/-- The supply line of a carrier (R4). -/
def State.supplyLine (s : State) (c : Carrier) : LineDrive :=
  let r := s.carrier c
  if r.state = .absent then .released else driveLine r.values.supplyHigh (supplyActive r.state)

/-- The key line of a carrier (R4). -/
def State.keyLine (s : State) (c : Carrier) : LineDrive :=
  let r := s.carrier c
  if r.state = .absent then .released else driveLine r.values.keyHigh (keyActive r)

/-- The attention line: active while the ring is present, the attention enable is set and the producer index differs from
the consumer index (R158). -/
def State.attention (s : State) : Bool :=
  s.report.ring.isSome && s.globals.attention && (s.report.producer != s.report.consumer)

/-- The budget in use: the sum of the charged weights (R115). -/
def WarmupArbiter.budgetInUse (a : WarmupArbiter) : Nat := (a.charged.map Prod.snd).sum

/-! ### The Report Unit -/

/-- The ring records written and not yet consumed, modulo 65536 (R153). -/
def ReportUnit.unconsumed (u : ReportUnit) : Nat := (u.producer - u.consumer).toNat

/-- A pending write is a ring record write. -/
def ReportWrite.isRecord : ReportWrite → Bool
  | .ringRecord _ _ => true
  | .statusBlock _ _ => false
  | .producerUpdate => false

/-- The records outstanding: ring record writes pending and live ones in flight (R152). -/
def ReportUnit.outstanding (u : ReportUnit) : Nat :=
  (u.pending.filter ReportWrite.isRecord).length + (u.inFlightRecords.filter id).length

/-- The places of the pending queue taken, an owed producer update counted (R152). -/
def ReportUnit.placesTaken (u : ReportUnit) : Nat := u.pending.length + flagBit u.updateOwed

/-- The two conditions of admission (R152). -/
def ReportUnit.admits (u : ReportUnit) : Bool :=
  match u.ring with
  | some ring => decide (u.unconsumed + u.outstanding < ring.capacity) && decide (u.placesTaken < Config.pendingLimit)
  | none => false

/-- A record handed: discarded while there is no ring (R150), else admitted with the GAP flag or dropped (R152). -/
def ReportUnit.hand (u : ReportUnit) (r : Record) : ReportUnit :=
  if u.ring.isNone then u
  else if u.admits then { u with pending := u.pending ++ [.ringRecord u.gap r], gap := false }
  else { u with gap := true }

/-- A record with its header as the Slot Timer stands (section 9.2), for the window number given. -/
def State.makeRecord (s : State) (window : Word32) (body : RecordBody) : Record :=
  { window := window, seconds := s.timer.seconds, slot := s.timer.slot, body := body }

/-- The state with a record made and handed to the Report Unit. -/
def State.hand (s : State) (body : RecordBody) : State :=
  { s with report := s.report.hand (s.makeRecord s.timer.windowNumber body) }

/-- A fault handed to the latch replaces its contents, with MORE set if there were any (R157). -/
def State.latchFault (s : State) (f : BusFault) : State :=
  { s with report := { s.report with latch := some { fault := f, more := s.report.latch.isSome } } }

/-- A producer update becomes due at an advance of the producer index (R151). -/
def ReportUnit.updateDue (u : ReportUnit) : ReportUnit :=
  if u.pending.contains .producerUpdate then u
  else if u.pending.length < Config.pendingLimit then { u with pending := u.pending ++ [.producerUpdate] }
  else { u with updateOwed := true }

/-! ### The wake queue and its grants -/

/-- Entry `a` stands ahead of entry `b`: by class, then by ordinal (R118). -/
def WakeEntry.ahead (a b : WakeEntry) : Bool :=
  decide (a.cls.rank < b.cls.rank) || (decide (a.cls.rank = b.cls.rank) && decide (a.ordinal < b.ordinal))

/-- An entry placed where its class and ordinal put it (R118). -/
def placeEntry (e : WakeEntry) : List WakeEntry → List WakeEntry
  | [] => [e]
  | f :: rest => if e.ahead f then e :: f :: rest else f :: placeEntry e rest

/-- An entry is ready: URGENT, without a sleep counter, or with one that has reached minSleep (R120). -/
def State.entryReady (s : State) (e : WakeEntry) : Bool :=
  let r := s.carrier e.carrier
  match e.cls with
  | .urgent => true
  | .demand | .load | .routine =>
    match r.sleepCount with
    | none => true
    | some n => decide (r.values.minSleep ≤ n)

/-- The first ready entry in queue order (R122). -/
def State.candidate (s : State) : Option WakeEntry := s.arbiter.queue.find? s.entryReady

/-- The candidate's weight fits the budget limit and the spacing timer is expired (R122). -/
def State.grantable (s : State) (e : WakeEntry) : Bool :=
  decide (s.arbiter.budgetInUse + (s.carrier e.carrier).values.weight ≤ s.globals.budgetLimit)
    && decide (s.arbiter.spacing = 0)

/-- A grant made at the arbiter: the entry removed, the weight charged, the spacing timer set and the grant handed to the
Carrier Controller (R123). -/
def State.makeGrant (s : State) (e : WakeEntry) : State :=
  { s with
    arbiter := { s.arbiter with
      queue := s.arbiter.queue.erase e
      charged := s.arbiter.charged ++ [(e.carrier, (s.carrier e.carrier).values.weight)]
      spacing := s.globals.spacing }
    due := s.due ++ [.grant e.carrier] }

/-- Attempts until one grants nothing: under a spacing value above 0 the second finds the timer running (R123, R125). -/
def attempts : Nat → State → State
  | 0, s => s
  | n + 1, s =>
    match s.candidate with
    | none => s
    | some e => if s.grantable e then attempts n (s.makeGrant e) else s

/-- An attempt at the arbiter (R122, R125). Each grant takes one entry out of the queue. -/
def State.attempt (s : State) : State := attempts s.arbiter.queue.length s

/-- A new entry: numbered, placed, and followed by an attempt (R117). -/
def State.enqueue (s : State) (c : Carrier) (cls : WakeClass) : State :=
  State.attempt { s with arbiter := { s.arbiter with
    ordinal := s.arbiter.ordinal + 1
    queue := placeEntry { carrier := c, cls := cls, ordinal := s.arbiter.ordinal + 1 } s.arbiter.queue } }

/-- A class raise at the arbiter: the entry keeps its ordinal, takes its place in its new class, and an attempt follows. A
carrier without an entry is ignored (R119). -/
def State.raiseEntry (s : State) (c : Carrier) (cls : WakeClass) : State :=
  match s.arbiter.queue.find? (fun e => e.carrier == c) with
  | none => s
  | some e =>
    State.attempt { s with arbiter := { s.arbiter with queue := placeEntry { e with cls := cls } (s.arbiter.queue.erase e) } }

/-- The end of a warm-up at the arbiter: the charged weight is removed, and an attempt follows (R133). -/
def State.release (s : State) (c : Carrier) : State :=
  State.attempt { s with arbiter := { s.arbiter with charged := s.arbiter.charged.filter (fun p => p.1 != c) } }

/-! ### Transitions of a carrier -/

/-- The record of a carrier as it enters a state: the entry actions of section 1.4. -/
def CarrierRecord.enter (r : CarrierRecord) (state : CarrierState) (cls : Option WakeClass) : CarrierRecord :=
  match state with
  | .on => { r with state := .on, minOnCount := 0 }
  | .draining => { r with state := .draining, emptyRun := 0, drainElapsed := 0 }
  | .light => { r with state := .light, lightCount := 0, beaconCount := 0 }
  | .deep => { r with state := .deep, sleepCount := some 0 }
  | .queued => { r with state := .queued, queuedClass := cls }
  | .warming => { r with state := .warming, queuedClass := none, sleepCount := none, warmupElapsed := 0 }
  | .faulted => { r with state := .faulted }
  | .absent => { CarrierRecord.vacant with values := r.values }

/-- The figures of a carrier with L set to 16000 (R79). -/
def Figures.full (f : Figures) : Figures := { f with load := Config.fullLoad }

/-- A transition: the entry actions, L set to 16000 on entry to ON from WARMING (R79), and one STATE record (R10). -/
def State.transition (s : State) (c : Carrier) (state : CarrierState) (cause : Cause) (cls : Option WakeClass) : State :=
  let r := s.carrier c
  let s := s.setCarrier c (r.enter state cls)
  let s := if r.state = .warming ∧ state = .on then s.setFigures c (s.figures c).full else s
  s.hand (.stateChange c r.state state cause cls)

/-- A transition to QUEUED, with a new entry handed to the arbiter (R18). -/
def State.queueCarrier (s : State) (c : Carrier) (cause : Cause) (cls : WakeClass) : State :=
  (s.transition c .queued cause (some cls)).enqueue c cls

/-- A wake cause for a carrier in QUEUED: a higher class raises it, with a STATE record from QUEUED to QUEUED (R19). -/
def State.raiseClass (s : State) (c : Carrier) (cause : Cause) (cls : WakeClass) : State :=
  match (s.carrier c).queuedClass with
  | none => s
  | some old =>
    if cls.rank < old.rank then
      let s := s.setCarrier c { s.carrier c with queuedClass := some cls }
      (s.hand (.stateChange c .queued .queued cause (some cls))).raiseEntry c cls
    else s

/-- What a wake cause does with a carrier by its state: DRAINING and LIGHT return to ON, DEEP is queued, QUEUED may be
raised, and every other state is left (R16, R20, R23). -/
def State.wake (s : State) (c : Carrier) (cause : Cause) (cls : WakeClass) : State :=
  match (s.carrier c).state with
  | .draining | .light => s.transition c .on cause none
  | .deep => s.queueCarrier c cause cls
  | .queued => s.raiseClass c cause cls
  | .absent | .on | .warming | .faulted => s

/-- A carrier is a present capacity carrier. -/
def State.isCapacity (s : State) (c : Carrier) : Bool :=
  (s.carrier c).values.present && (s.carrier c).values.role == .capacity

/-- A carrier is a present anchor. -/
def State.isAnchor (s : State) (c : Carrier) : Bool :=
  (s.carrier c).values.present && (s.carrier c).values.role == .anchor

/-- Every carrier that `which` picks, woken in ascending carrier number, each as its state stands then (R11). -/
def State.wakeAll (s : State) (which : State → Carrier → Bool) (cause : Cause) (cls : WakeClass) : State :=
  carriers.foldl (fun s c => if which s c then s.wake c cause cls else s) s

/-- The anchor-lost cascade over the present capacity carriers of a sector (R16). -/
def State.cascade (s : State) (sector : Nat) : State :=
  s.wakeAll (fun s c => s.isCapacity c && (s.carrier c).values.sector == sector) .anchorLost .urgent

/-- READY_LOST: the carrier enters FAULTED, and an anchor's sector is woken within the event (R15, R16). -/
def State.readyLost (s : State) (c : Carrier) : State :=
  let t := s.transition c .faulted .readyLost none
  if s.isAnchor c then t.cascade (s.carrier c).values.sector else t

/-- The state with the expiry of a carrier's warm-up no longer outstanding: a warm-up that has ended does not expire (R131). -/
def State.dropExpiry (s : State) (c : Carrier) : State := { s with due := s.due.filter (fun d => d != .warmupExpiry c) }

/-- The end of a warm-up: the transition, reported to the arbiter, which releases the charged weight (R133). -/
def State.endWarmup (s : State) (c : Carrier) (state : CarrierState) (cause : Cause) : State :=
  ((s.dropExpiry c).transition c state cause none).release c

/-- The sector's anchor is present and in ON (R17, R24). -/
def State.anchorOn (s : State) (sector : Nat) : Bool :=
  carriers.any (fun a => s.isAnchor a && (s.carrier a).values.sector == sector && (s.carrier a).state == .on)

/-- Every held list emptied (R76). -/
def State.flushAll (s : State) : State := { s with monitor := { held := tabulate fun _ => [] } }

/-- A staged generation: not 0, and neither the last applied nor the last refused (R140). -/
def PolicyLoader.staged (l : PolicyLoader) : Bool :=
  mirrorGeneration l.mirror != 0 && mirrorGeneration l.mirror != l.lastApplied
    && mirrorGeneration l.mirror != l.lastRefused

end Sys2Proof.Machine
end

