-- ==== Sys2Proof/Machine/CarrierEvents.lean ====
section
/-! DEFINITION. The events of the Carrier Controller, the Warm-up Arbiter and the heartbeat, each as one operation on the
state: what is done when the event is taken. -/

namespace Sys2Proof.Machine

/-- The cause code of a fail-safe cause (R20). -/
def failSafeCause : FailSafe → Cause
  | .holdover => .holdover
  | .heartbeatLapsed => .heartbeatLapsed
  | .fabricReset => .fabricReset

/-- The Carrier Controller takes a fail-safe cause: every present capacity carrier is woken, class URGENT (R20). -/
def State.takeFailSafe (s : State) (f : FailSafe) : State :=
  s.wakeAll State.isCapacity (failSafeCause f) .urgent

/-- The cause and class of a demand (R71). -/
def demandCause (urgent : Bool) : Cause := if urgent then .urgentDemand else .demand

/-- The class of a demand (section 1.7). -/
def demandClass (urgent : Bool) : WakeClass := if urgent then .urgent else .demand

/-- The Carrier Controller takes a demand: DEEP is queued, QUEUED may be raised, and no other state is affected (R18). -/
def State.takeDemand (s : State) (c : Carrier) (urgent : Bool) : State :=
  match (s.carrier c).state with
  | .deep => s.queueCarrier c (demandCause urgent) (demandClass urgent)
  | .queued => s.raiseClass c (demandCause urgent) (demandClass urgent)
  | .absent | .on | .draining | .light | .warming | .faulted => s

/-- The Carrier Controller takes a grant: WARMING, and on to ON at once where the sensed ready line is high (R26). -/
def State.takeGrant (s : State) (c : Carrier) : State :=
  match (s.carrier c).state with
  | .queued =>
    let t := s.transition c .warming .grant none
    if (s.carrier c).values.sensing && s.readyLevel c then t.endWarmup c .on .ready else t
  | .absent | .on | .draining | .light | .deep | .warming | .faulted => s

/-- The ready line of a carrier is examined: present, with ready sensing on (R5). -/
def State.senses (s : State) (c : Carrier) : Bool := (s.carrier c).values.present && (s.carrier c).values.sensing

/-- A change of a ready line from low to high: in WARMING it ends the warm-up in ON (R5, R129). A line already high makes no
change. -/
def State.takeReadyRise (s : State) (c : Carrier) : State :=
  let t := s.setReady c true
  if !s.readyLevel c && s.senses c && (s.carrier c).state == .warming then t.endWarmup c .on .ready else t

/-- A carrier is serving: ON, DRAINING or LIGHT (R3). -/
def CarrierState.serving : CarrierState → Bool
  | .on | .draining | .light => true
  | .absent | .deep | .queued | .warming | .faulted => false

/-- A carrier is dark: DEEP, QUEUED, WARMING or FAULTED (R3). -/
def CarrierState.dark : CarrierState → Bool
  | .deep | .queued | .warming | .faulted => true
  | .absent | .on | .draining | .light => false

/-- A change of a ready line from high to low: a serving carrier takes READY_LOST (R5, R15). -/
def State.takeReadyFall (s : State) (c : Carrier) : State :=
  let t := s.setReady c false
  if s.readyLevel c && s.senses c && (s.carrier c).state.serving then t.readyLost c else t

/-- A warm-up expires: ON with WARMUP_ELAPSED if sensing is off, FAULTED with WARMUP_TIMEOUT if it is on (R129, R130). The
event does not occur once the carrier has left WARMING (R131). -/
def State.takeWarmupExpiry (s : State) (c : Carrier) : State :=
  match (s.carrier c).state with
  | .warming =>
    if (s.carrier c).values.sensing then s.endWarmup c .faulted .warmupTimeout else s.endWarmup c .on .warmupElapsed
  | .absent | .on | .draining | .light | .deep | .queued | .faulted => s

/-- A confirmed drain: LIGHT, with the key level chosen by the confirming slot, whose RB is 0 (R101, R106). -/
def State.takeDrainConfirmed (s : State) (c : Carrier) (beacon : Bool) : State :=
  match (s.carrier c).state with
  | .draining =>
    let t := s.transition c .light .drainConfirmed none
    t.setCarrier c { t.carrier c with keyed := beacon }
  | .absent | .on | .light | .deep | .queued | .warming | .faulted => s

/-- A drain at its deadline: ON, with the drain backoff set (R102). -/
def State.takeDrainDeadline (s : State) (c : Carrier) : State :=
  match (s.carrier c).state with
  | .draining =>
    let t := s.transition c .on .drainDeadline none
    t.setCarrier c { t.carrier c with backoff := s.globals.drainBackoff }
  | .absent | .on | .light | .deep | .queued | .warming | .faulted => s

/-- A light sleeper starved of beacons: ON (R107). -/
def State.takeBeaconStarved (s : State) (c : Carrier) : State :=
  match (s.carrier c).state with
  | .light => s.transition c .on .beaconStarved none
  | .absent | .on | .draining | .deep | .queued | .warming | .faulted => s

/-- A ready notice: an attempt, or nothing where the carrier has no entry any more (R121). -/
def State.takeReadyNotice (s : State) (c : Carrier) : State :=
  if s.arbiter.queue.any (fun e => e.carrier == c) then s.attempt else s

/-- The spacing timer has expired: an attempt (R124). -/
def State.takeSpacingExpiry (s : State) : State := s.attempt

/-- The heartbeat lapses at the Policy Loader: LAPSED and the timer stopped, and a HEARTBEAT record (R147, steps 1 and 2). -/
def State.lapseHeartbeat (s : State) : State :=
  State.hand { s with loader := { s.loader with heartbeat := .lapsed, heartbeatTimer := none } } (.heartbeat .lapsed)

/-- The heartbeat lapses, and the HEARTBEAT_LAPSED cause is handed to the Carrier Controller (R147). -/
def State.takeHeartbeatLapse (s : State) : State := s.lapseHeartbeat.addDue (.failSafe .heartbeatLapsed)

/-- The clock seconds advance by one, wrapping from 86399 to 0, and the sub-second count returns to 0 (R38). -/
def State.takeClockSecond (s : State) : State :=
  { s with timer := { s.timer with
    seconds := if s.timer.seconds < Config.lastSecond then s.timer.seconds + 1 else 0
    subSecond := 0 } }

/-! ### Events taken at once (notes/assumptions/2.md) -/

/-- An event that belongs to the event that brought it about, so that no other command comes between: the end of a drain and
beacon starvation (R100, R107), a clock second (R38) and a heartbeat lapse (R147). -/
def Due.atOnce : Due → Bool
  | .clockSecond => true
  | .drainConfirmed _ _ => true
  | .drainDeadline _ => true
  | .beaconStarved _ => true
  | .heartbeatLapse => true
  | .readyNotice _ => false
  | .warmupExpiry _ => false
  | .spacingExpiry => false
  | .boundary _ _ _ => false
  | .generation => false
  | .verdicts _ _ => false
  | .grant _ => false
  | .demand _ _ => false
  | .failSafe _ => false
  | .tickLoss => false

/-- An event of those taken at once, taken; any other is left. -/
def State.takeAtOnce (s : State) (d : Due) : State :=
  match d with
  | .clockSecond => s.takeClockSecond
  | .drainConfirmed c beacon => s.takeDrainConfirmed c beacon
  | .drainDeadline c => s.takeDrainDeadline c
  | .beaconStarved c => s.takeBeaconStarved c
  | .heartbeatLapse => s.takeHeartbeatLapse
  | .readyNotice _ => s
  | .warmupExpiry _ => s
  | .spacingExpiry => s
  | .boundary _ _ _ => s
  | .generation => s
  | .verdicts _ _ => s
  | .grant _ => s
  | .demand _ _ => s
  | .failSafe _ => s
  | .tickLoss => s

/-- The events taken at once, taken in the order they came about. -/
def State.settleAtOnce (s : State) : State :=
  (s.due.filter Due.atOnce).foldl State.takeAtOnce { s with due := s.due.filter (fun d => !d.atOnce) }

end Sys2Proof.Machine
end

