-- ==== Sys2Proof/Machine/LoadProcedure.lean ====
section
/-! DEFINITION. The Load Evaluator: measurement of a retired slot, the arithmetic of utilisation, filter and moved load, the
window verdict procedure, and the Carrier Controller's taking of verdicts. -/

namespace Sys2Proof.Machine

/-! ### Arithmetic -/

/-- The figures of a carrier with one retired slot taken, by the state the slot carries (R80). -/
def Figures.takeSlot (f : Figures) (state : CarrierState) (rb : Nat) : Figures :=
  match state with
  | .on | .draining => { f with windowSum := f.windowSum + rb, measured := f.measured + 1 }
  | .light => { f with windowSum := f.windowSum + rb, measured := f.measured + 1, lightSlots := f.lightSlots + 1 }
  | .deep | .queued => { f with offSlots := f.offSlots + 1 }
  | .absent | .warming | .faulted => f

/-- u = floor(1000 × sum / (n × RBmax)) (R82). -/
def utilisation (sum n rbMax : Nat) : Nat := 1000 * sum / (n * rbMax)

/-- L_new = L_old + trunc((16 × u − L_old) / 2^k) (R82). -/
def filterLoad (load u k : Nat) : Nat := ((load : Int) + (16 * (u : Int) - load).tdiv (2 ^ k)).toNat

/-- A carrier has enough measured slots: at least ceil(W/2) (R82). -/
def enoughMeasured (n w : Nat) : Bool := decide ((w + 1) / 2 ≤ n)

/-- m(x) = floor(L_x × RBmax_x / RBmax_a) (R85). -/
def movedLoad (load rbMax anchorRbMax : Nat) : Nat := load * rbMax / anchorRbMax

/-- The figures of a serving carrier after the measure step (R82). -/
def Figures.measureStep (f : Figures) (w k rbMax : Nat) : Figures :=
  if enoughMeasured f.measured w then
    { f with
      lastU := utilisation f.windowSum f.measured rbMax
      load := filterLoad f.load (utilisation f.windowSum f.measured rbMax) k }
  else f

/-- The residency counts latched and the accumulators set to 0 (R84). -/
def Figures.latchStep (f : Figures) : Figures :=
  { f with latchedLight := f.lightSlots, latchedOff := f.offSlots, windowSum := 0, measured := 0, lightSlots := 0, offSlots := 0 }

/-- The figures of a carrier that becomes present (R79). -/
def Figures.arriving : Figures :=
  { Figures.zero with load := Config.fullLoad, lastU := 1000 }

/-! ### The night predicate -/

/-- Second `t` lies within the night window (R40). -/
def inNight (start stop t : Nat) : Bool :=
  if start = stop then false
  else if start < stop then decide (start ≤ t) && decide (t < stop)
  else decide (start ≤ t) || decide (t < stop)

/-- What the night question reads of the policy and the heartbeat: the values held back where an application was taken first
at this boundary, else those in force (R40). The heartbeat held back answers also where a fabric reset lapses the heartbeat,
or a heartbeat write ends a lapse, between that application and the question (DESIGN CHOICE, notes/assumptions/38.md: R40's
'as it stood before any generation applied at the same boundary' beside R147's 'From the lapse on, the night predicate is
false'). -/
def State.nightValues (s : State) : NightHold :=
  match s.timer.nightHold with
  | some h => h
  | none => { nightStart := s.globals.nightStart, nightEnd := s.globals.nightEnd, heartbeat := s.loader.heartbeat }

/-- The night predicate (R40). -/
def State.nightPredicate (s : State) : Bool :=
  s.loader.applied.isSome && s.timer.clockSet && (s.nightValues.heartbeat == .alive)
    && inNight s.nightValues.nightStart s.nightValues.nightEnd s.timer.seconds

/-! ### The window verdict procedure -/

/-- A carrier is evaluated: present both in the window parameters and in the carrier table (R87). -/
def evaluated (p : WindowParams) (s : State) (c : Carrier) : Bool :=
  (p.entries.get c).present && (s.carrier c).values.present

/-- Step 1 for one carrier (R82, R84). -/
def measureCarrier (p : WindowParams) (s : State) (c : Carrier) : State :=
  if evaluated p s c then
    let f := s.figures c
    let f := if (s.carrier c).state.serving then f.measureStep p.w p.k (p.entries.get c).rbMax else f
    s.setFigures c f.latchStep
  else s

/-- Step 1, measure (R88). -/
def measureAll (p : WindowParams) (s : State) : State := carriers.foldl (measureCarrier p) s

/-- An evaluated capacity carrier, by the window parameters. -/
def evalCapacity (p : WindowParams) (s : State) (c : Carrier) : Bool :=
  evaluated p s c && (p.entries.get c).role == .capacity

/-- The anchor of a sector by the window parameters, if it is evaluated and in ON when read (R91, R94, R95). -/
def anchorInOn (p : WindowParams) (s : State) (sector : Nat) : Option Carrier :=
  carriers.find? (fun a => evaluated p s a && (p.entries.get a).role == .anchor && (p.entries.get a).sector == sector
    && (s.carrier a).state == .on)

/-- The evaluated capacity carriers of a sector, ascending. -/
def sectorCapacity (p : WindowParams) (s : State) (sector : Nat) : List Carrier :=
  carriers.filter (fun c => evalCapacity p s c && (p.entries.get c).sector == sector)

/-- The state a carrier is read in. -/
def inState (s : State) (state : CarrierState) (c : Carrier) : Bool := (s.carrier c).state == state

/-- The sectors in ascending order. -/
def sectors : List Nat := List.range Config.sectorCount

/-- Step 3: the night-end verdict of one carrier, by the state read (R90). -/
def nightEndVerdict (s : State) (c : Carrier) : List Verdict :=
  match (s.carrier c).state with
  | .draining => [{ carrier := c, kind := .cancelDrain, cause := .nightEnd, cls := .routine }]
  | .light => [{ carrier := c, kind := .wakeLight, cause := .nightEnd, cls := .routine }]
  | .deep => [{ carrier := c, kind := .wakeDeep, cause := .nightEnd, cls := .routine }]
  | .absent | .on | .queued | .warming | .faulted => []

/-- Step 3, night end (R90). -/
def nightEndStep (p : WindowParams) (s : State) : List Verdict :=
  (carriers.filter (evalCapacity p s)).flatMap (nightEndVerdict s)

/-- The sector's anchor is in ON and passes the anchor overload test L > 16 × C_ovl (R86, R91). -/
def overloaded (p : WindowParams) (s : State) (sector : Nat) : Bool :=
  match anchorInOn p s sector with
  | none => false
  | some a =>
    match (p.entries.get a).limits with
    | none => false
    | some l => decide (16 * l.cOvl < (s.figures a).load)

/-- The one wake of an overloaded sector: its lowest LIGHT carrier, else its lowest DEEP one (R91). -/
def overloadWake (p : WindowParams) (s : State) (sector : Nat) : List Verdict :=
  match (sectorCapacity p s sector).find? (inState s .light) with
  | some c => [{ carrier := c, kind := .wakeLight, cause := .anchorOverload, cls := .load }]
  | none =>
    match (sectorCapacity p s sector).find? (inState s .deep) with
    | some c => [{ carrier := c, kind := .wakeDeep, cause := .anchorOverload, cls := .load }]
    | none => []

/-- Step 4 for one sector (R91). -/
def overloadSector (p : WindowParams) (s : State) (sector : Nat) : List Verdict :=
  if overloaded p s sector then
    ((sectorCapacity p s sector).filter (inState s .draining)).map
        (fun c => { carrier := c, kind := .cancelDrain, cause := .anchorOverload, cls := .load })
      ++ overloadWake p s sector
  else []

/-- Step 4, anchor overload (R91). -/
def overloadStep (p : WindowParams) (s : State) : List Verdict := sectors.flatMap (overloadSector p s)

/-- A carrier has already received a verdict at the boundary (R88). -/
def judged (vs : List Verdict) (c : Carrier) : Bool := vs.any (fun v => v.carrier == c)

/-- Step 5, wake for load: L ≥ 16 × T_wake (R86, R92). -/
def wakeForLoadStep (p : WindowParams) (s : State) (vs : List Verdict) : List Verdict :=
  (carriers.filter (fun c => evalCapacity p s c && inState s .light c && !judged vs c
      && decide (16 * (p.entries.get c).tWake ≤ (s.figures c).load))).map
    (fun c => { carrier := c, kind := .wakeLight, cause := .loadHigh, cls := .load })

/-- The conditions of a DEEPEN verdict (R94). -/
def deepens (p : WindowParams) (s : State) (vs : List Verdict) (c : Carrier) : Bool :=
  evalCapacity p s c && inState s .light c && !judged vs c && !overloaded p s (p.entries.get c).sector
    && (p.entries.get c).deepEnable && decide ((p.entries.get c).lightDwell ≤ (s.carrier c).lightCount)
    && decide ((s.figures c).load ≤ 16 * (p.entries.get c).tDeep) && !s.keepAwake c
    && (anchorInOn p s (p.entries.get c).sector).isSome

/-- Step 6, deepen (R94). -/
def deepenStep (p : WindowParams) (s : State) (vs : List Verdict) : List Verdict :=
  (carriers.filter (deepens p s vs)).map (fun c => { carrier := c, kind := .deepen, cause := .deepen, cls := .routine })

/-- The conditions of a drain candidate; the backoff is judged as after step 2 (R89, R95). -/
def candidate (p : WindowParams) (s : State) (vs : List Verdict) (c : Carrier) : Bool :=
  evalCapacity p s c && inState s .on c && !judged vs c && !overloaded p s (p.entries.get c).sector
    && (p.entries.get c).sleepEnable && !s.keepAwake c
    && decide ((p.entries.get c).minOn ≤ (s.carrier c).minOnCount) && decide ((s.carrier c).backoff ≤ 1)
    && decide ((s.figures c).load ≤ 16 * (p.entries.get c).tSleep)

/-- The moved load of a carrier on an anchor (R85). -/
def moved (p : WindowParams) (s : State) (a c : Carrier) : Nat :=
  movedLoad (s.figures c).load (p.entries.get c).rbMax (p.entries.get a).rbMax

/-- The admission of candidates in ascending order from a projection P, against 16 × C_adm (R95). -/
def admitCandidates (p : WindowParams) (s : State) (a : Carrier) (limit : Nat) : Nat → List Carrier → List Verdict
  | _, [] => []
  | proj, c :: rest =>
    if proj + moved p s a c ≤ limit then
      { carrier := c, kind := .drain, cause := .lowLoad, cls := .routine } :: admitCandidates p s a limit (proj + moved p s a c) rest
    else admitCandidates p s a limit proj rest

/-- The projection P at its start: the anchor's L and the moved loads of the sector's draining carriers (R95). -/
def projection (p : WindowParams) (s : State) (a : Carrier) (sector : Nat) : Nat :=
  (s.figures a).load + (((sectorCapacity p s sector).filter (inState s .draining)).map (moved p s a)).sum

/-- Step 7 for one sector (R95). -/
def drainSector (p : WindowParams) (s : State) (vs : List Verdict) (sector : Nat) : List Verdict :=
  match anchorInOn p s sector with
  | none => []
  | some a =>
    match (p.entries.get a).limits with
    | none => []
    | some l =>
      if overloaded p s sector then []
      else admitCandidates p s a (16 * l.cAdm) (projection p s a sector) ((sectorCapacity p s sector).filter (candidate p s vs))

/-- Step 7, drain (R95). -/
def drainStep (p : WindowParams) (s : State) (vs : List Verdict) : List Verdict := sectors.flatMap (drainSector p s vs)

/-- Steps 3 to 7 on the figures the measure step has left (R88). -/
def verdictSteps (p : WindowParams) (s : State) (clean : Bool) : List Verdict :=
  if s.nightPredicate then
    let v4 := overloadStep p s
    let v5 := v4 ++ wakeForLoadStep p s v4
    if clean then
      let v6 := v5 ++ deepenStep p s v5
      v6 ++ drainStep p s v6
    else v5
  else nightEndStep p s

/-- The Load Evaluator runs the procedure for a boundary, hands the list to the Carrier Controller, records the window as
evaluated and installs pending parameters (R87, R88). -/
def State.runProcedure (s : State) (window : Word32) (clean : Bool) : State :=
  match s.evaluator.params with
  | none => s
  | some p =>
    let m := measureAll p s
    let list := verdictSteps p m clean
    let m := { m with evaluator := { m.evaluator with
      lastEvaluated := window
      params := match m.evaluator.pendingParams with
        | some q => some q
        | none => some p
      pendingParams := none } }
    let m := { m with timer := { m.timer with nightHold := none } }
    m.addDue (.verdicts true list)

/-! ### The Report Unit at a boundary -/

/-- A full fault latch makes a FAULT record for the window that ends and is emptied if the record is admitted (R157). -/
def State.reportLatchedFault (s : State) (window : Word32) : State :=
  match s.report.latch with
  | none => s
  | some l =>
    let admitted := s.report.admits
    let s := { s with report := s.report.hand (s.makeRecord window (.faultReport l)) }
    if admitted then { s with report := { s.report with latch := none } } else s

/-- The queue length: the number of carriers in QUEUED at the Carrier Controller (R116). -/
def State.queueLength (s : State) : Nat := (carriers.filter (inState s .queued)).length

/-- The header of the status block, 64 bytes (R156, R162). -/
def State.statusHeader (s : State) (window : Word32) : List BeatData :=
  [packBeat [(0, s.report.producer.toNat)],
   packBeat [(0, window.toNat), (4, s.loader.lastApplied.toNat)],
   packBeat [(0, s.loader.lastRefused.toNat), (4, s.timer.seconds)],
   packBeat [(0, s.timer.state.code), (1, flagBit s.timer.clockSet), (2, s.loader.heartbeat.statusCode),
     (3, s.arbiter.budgetInUse), (4, s.queueLength)],
   0, 0, 0, 0]

/-- The status block entry of a carrier (R156, R162). -/
def State.statusEntry (s : State) (c : Carrier) : BeatData :=
  encodeEntry (s.carrier c).state (s.carrier c).queuedClass (s.figures c)

/-- The four status-block writes (R156). -/
def State.statusWrites (s : State) (window : Word32) (base : Nat) : List ReportWrite :=
  [.statusBlock (BitVec.ofNat 40 base) (s.statusHeader window),
   .statusBlock (BitVec.ofNat 40 (base + 0x40)) ((carriers.take 8).map s.statusEntry),
   .statusBlock (BitVec.ofNat 40 (base + 0x80)) (((carriers.drop 8).take 8).map s.statusEntry),
   .statusBlock (BitVec.ofNat 40 (base + 0xC0)) ((carriers.drop 16).map s.statusEntry)]

/-- The status block is rewritten if the pending queue has four free places, else the rewrite is skipped whole (R156). -/
def State.rewriteStatus (s : State) (window : Word32) : State :=
  match s.report.ring with
  | none => s
  | some ring =>
    if s.report.placesTaken + 4 ≤ Config.pendingLimit then
      { s with report := { s.report with pending := s.report.pending ++ s.statusWrites window ring.base } }
    else s

/-- A boundary taken by the Load Evaluator and the Report Unit (R37, R156, R157). -/
def State.takeBoundary (s : State) (window : Word32) (clean : Bool) : State :=
  ((s.reportLatchedFault window).runProcedure window clean).rewriteStatus window

/-! ### The Carrier Controller's taking of verdicts -/

/-- The backoff decrement of one carrier (R89). -/
def decrementBackoff (s : State) (c : Carrier) : State :=
  if s.isCapacity c then s.setCarrier c { s.carrier c with backoff := (s.carrier c).backoff - 1 } else s

/-- The conditions of a sleep verdict beyond the state: the sector's anchor is in ON and the keep-awake bit is 0 (R24). An
anchor enters no sleep state (R3, R96; DEDUCED, notes/assumptions/14.md). -/
def State.maySleep (s : State) (c : Carrier) : Bool :=
  s.isCapacity c && s.anchorOn (s.carrier c).values.sector && !s.keepAwake c

/-- A verdict checked against the carrier's record as it stands and applied, or dropped (R24). -/
def State.applyVerdict (s : State) (v : Verdict) : State :=
  match v.kind, (s.carrier v.carrier).state with
  | .drain, .on => if s.maySleep v.carrier then s.transition v.carrier .draining .lowLoad none else s
  | .deepen, .light => if s.maySleep v.carrier then s.transition v.carrier .deep .deepen none else s
  | .cancelDrain, .draining => s.transition v.carrier .on v.cause none
  | .wakeLight, .light => s.transition v.carrier .on v.cause none
  | .wakeDeep, .deep => s.queueCarrier v.carrier v.cause v.cls
  | _, _ => s

/-- The Carrier Controller takes the first `n` verdicts of a list, the backoff decrement before the first (R24, R89). What is
left of the list stays outstanding. -/
def State.takeVerdicts (s : State) (fresh : Bool) (list : List Verdict) (n : Nat) : State :=
  let s := if fresh then carriers.foldl decrementBackoff s else s
  let s := if n < list.length then { s with due := .verdicts false (list.drop n) :: s.due } else s
  (list.take n).foldl State.applyVerdict s

end Sys2Proof.Machine
end

