-- ==== Sys2Proof/Machine/PolicyApplication.lean ====
section
/-! DEFINITION. Taking up a generation: validation, clamps, refusal and application to every block (chapter 8). -/

namespace Sys2Proof.Machine

/-! ### Validation (R141, R142) -/

/-- The carriers present in a policy, ascending. -/
def Policy.presentCarriers (p : Policy) : List Carrier := carriers.filter (fun c => (p.entries.get c).present)

/-- The carriers present in a sector: its membership (R142). -/
def Policy.members (p : Policy) (sector : Nat) : List Carrier :=
  p.presentCarriers.filter (fun c => (p.entries.get c).sector == sector)

/-- The present anchors of a sector. -/
def Policy.anchors (p : Policy) (sector : Nat) : List Carrier :=
  (p.members sector).filter (fun c => (p.entries.get c).role == .anchor)

/-- The first reason (R141). -/
def checkMasters (p : Policy) : Option (RefusalReason × Nat) :=
  if p.globals.scheduler == p.globals.fronthaul || p.globals.scheduler == 7 || p.globals.fronthaul == 7 then
    some (.masterClash, p.globals.scheduler.toNat)
  else none

/-- The second reason (R141). -/
def checkSectors (p : Policy) : Option (RefusalReason × Nat) :=
  (p.presentCarriers.find? (fun c => decide (5 < (p.entries.get c).sector))).map (fun c => (.sectorRange, c.val))

/-- The third reason (R141). -/
def checkAnchors (p : Policy) : Option (RefusalReason × Nat) :=
  (sectors.find? (fun k => !(p.members k).isEmpty && (p.anchors k).length != 1)).map (fun k => (.anchorCount, k))

/-- The windows of a policy by ascending window index: the descriptor windows of present carriers, and the report window,
each with its size code (R46, R141). -/
def Policy.shapes (p : Policy) : List (Nat × Nat × Nat) :=
  p.presentCarriers.map (fun c => (c.val, (p.entries.get c).windowBase, (p.entries.get c).windowSizeCode))
    ++ [(25, p.globals.reportBase, p.globals.reportSizeCode)]

/-- The fourth reason: a size code above 16, or a base that is not a multiple of the size (R141). -/
def checkShapes (p : Policy) : Option (RefusalReason × Nat) :=
  (p.shapes.find? (fun x => decide (16 < x.2.2) || x.2.1 % windowBytes x.2.2 != 0)).map (fun x => (.windowShape, x.1))

/-- A shape as a window. -/
def shapeWindow (x : Nat × Nat × Nat) : Window := { index := x.1, base := x.2.1, size := windowBytes x.2.2 }

/-- Two windows share a byte. -/
def Window.overlaps (a b : Window) : Bool := decide (a.base < b.base + b.size) && decide (b.base < a.base + a.size)

/-- The policy region as a window (R46). -/
def policyWindow (base : Nat) : Window := { index := 24, base := base, size := Config.regionSize }

/-- The lower index of the first overlapping pair, window by window: against the policy region, then against each
lower-indexed window (R141). -/
def firstOverlap (region : Window) : List Window → List Window → Option Nat
  | _, [] => none
  | earlier, x :: rest =>
    match (region :: earlier).find? (fun y => x.overlaps y) with
    | some y => some (min x.index y.index)
    | none => firstOverlap region (earlier ++ [x]) rest

/-- The fifth reason (R141). -/
def checkOverlaps (base : Nat) (p : Policy) : Option (RefusalReason × Nat) :=
  (firstOverlap (policyWindow base) [] (p.shapes.map shapeWindow)).map (fun i => (.windowOverlap, i))

/-- The ring capacities allowed (R141). -/
def ringCapacities : List Nat := [16, 32, 64, 128, 256, 512, 1024]

/-- The sixth reason (R141). -/
def checkRing (p : Policy) : Option (RefusalReason × Nat) :=
  if !ringCapacities.contains p.globals.ringCapacity
      || decide (windowBytes p.globals.reportSizeCode < 256 + 32 * p.globals.ringCapacity) then
    some (.ringShape, 25)
  else none

/-- A value brought into a range (R144). -/
def clampTo (low high n : Nat) : Nat := max low (min high n)

/-- RBmax after clamping (R144). -/
def clampRbMax (n : Nat) : Nat := clampTo 24 275 n

/-- A structural value differs between an applied entry and a mirror entry, RBmax compared after clamping (R142). -/
def structuralChange (applied mirror : CarrierValues) : Bool :=
  applied.present != mirror.present || applied.role != mirror.role || applied.sector != mirror.sector
    || applied.rbMax != clampRbMax mirror.rbMax || applied.windowBase != mirror.windowBase
    || applied.windowSizeCode != mirror.windowSizeCode || applied.supplyHigh != mirror.supplyHigh
    || applied.keyHigh != mirror.keyHigh || applied.sensing != mirror.sensing

/-- The states in which structural changes are refused (R142). -/
def CarrierState.busy : CarrierState → Bool
  | .draining | .light | .deep | .queued | .warming => true
  | .absent | .on | .faulted => false

/-- A busy carrier whose structural values would change (R142). -/
def busyChange (s : State) (p : Policy) (c : Carrier) : Bool :=
  (s.carrier c).state.busy && structuralChange (s.carrier c).values (p.entries.get c)

/-- The seventh reason (R142). -/
def checkBusyCarriers (s : State) (p : Policy) : Option (RefusalReason × Nat) :=
  (carriers.find? (busyChange s p)).map (fun c => (.busyCarrier, c.val))

/-- The carriers of a sector by the carrier table. -/
def State.tableMembers (s : State) (sector : Nat) : List Carrier :=
  carriers.filter (fun c => (s.carrier c).values.present && (s.carrier c).values.sector == sector)

/-- The anchors of a sector by the carrier table. -/
def State.tableAnchors (s : State) (sector : Nat) : List Carrier :=
  (s.tableMembers sector).filter (fun c => (s.carrier c).values.role == .anchor)

/-- A sector with a busy carrier whose membership or anchor would change (R142). -/
def busySectorChange (s : State) (p : Policy) (sector : Nat) : Bool :=
  (s.tableMembers sector).any (fun c => (s.carrier c).state.busy)
    && (decide (s.tableMembers sector ≠ p.members sector) || decide (s.tableAnchors sector ≠ p.anchors sector))

/-- The eighth reason (R142). -/
def checkBusySectors (s : State) (p : Policy) : Option (RefusalReason × Nat) :=
  (sectors.find? (busySectorChange s p)).map (fun k => (.busySector, k))

/-- Validation: the first reason that fails, with its index (R141). The busy checks compare with the carrier table, whose
values are those of the applied policy (R1). -/
def validate (s : State) (p : Policy) : Option (RefusalReason × Nat) :=
  (checkMasters p).or <| (checkSectors p).or <| (checkAnchors p).or <| (checkShapes p).or <|
    (checkOverlaps s.transit.policyBase p).or <| (checkRing p).or <| (checkBusyCarriers s p).or <| checkBusySectors s p

/-! ### Clamps (R86, R144) -/

/-- The threshold clamps of a carrier in the order of R86: range, T_wake above T_sleep, T_deep at most T_sleep. -/
def clampThresholds (v : CarrierValues) : CarrierValues :=
  let sleep := min 1000 v.tSleep
  let wake := min 1000 v.tWake
  let deep := min 1000 v.tDeep
  let sleep2 := if wake ≤ sleep ∧ sleep = 1000 then 999 else sleep
  let wake2 := if wake ≤ sleep then sleep2 + 1 else wake
  let deep2 := if sleep2 < deep then sleep2 else deep
  { v with tSleep := sleep2, tWake := wake2, tDeep := deep2 }

/-- The clamps of an anchor's thresholds: range, then C_ovl above C_adm (R86). -/
def clampLimits (l : AnchorLimits) : AnchorLimits :=
  let adm := min 1000 l.cAdm
  let ovl := min 1000 l.cOvl
  let adm2 := if ovl ≤ adm ∧ adm = 1000 then 999 else adm
  let ovl2 := if ovl ≤ adm then adm2 + 1 else ovl
  { cAdm := adm2, cOvl := ovl2 }

/-- A carrier entry after clamping; the entry of a carrier not present is left (R144). -/
def clampEntry (v : CarrierValues) : CarrierValues :=
  if v.present then
    { clampThresholds v with
      rbMax := clampRbMax v.rbMax
      weight := clampTo 1 4 v.weight
      warmupTimeout := clampTo 10 4000 v.warmupTimeout
      limits := v.limits.map clampLimits }
  else v

/-- The largest weight of any present carrier. -/
def largestWeight (entries : Table CarrierValues) : Nat :=
  carriers.foldl (fun n c => if (entries.get c).present then max n (entries.get c).weight else n) 0

/-- The globals after clamping, the budget limit raised to the largest clamped weight (R144). -/
def clampGlobals (g : Globals) (largest : Nat) : Globals :=
  { g with
    slotCode := min 3 g.slotCode
    w := clampTo 500 65535 g.w
    k := min 4 g.k
    heartbeatCode := min 15 g.heartbeatCode
    nightStart := min Config.lastSecond g.nightStart
    nightEnd := min Config.lastSecond g.nightEnd
    drainConfirm := clampTo 1 255 g.drainConfirm
    drainLimit := clampTo 100 65535 g.drainLimit
    beaconDeadline := clampTo 20 1280 g.beaconDeadline
    budgetLimit := max (clampTo 1 16 g.budgetLimit) largest }

/-- A policy after clamping (R144). -/
def clampPolicy (p : Policy) : Policy :=
  let entries := tabulate (fun c => clampEntry (p.entries.get c))
  { globals := clampGlobals p.globals (largestWeight entries), entries := entries }

/-- Some carrier's value changed. -/
def entryChanged {α : Type} [DecidableEq α] (before after : Policy) (field : CarrierValues → α) : Bool :=
  carriers.any (fun c => decide (field (before.entries.get c) ≠ field (after.entries.get c)))

/-- A clamp name is in the set when a clamp changed a value it names (R144). No value is changed twice back to what was
written, so the values written and applied tell (DEDUCED, notes/assumptions/15.md). -/
def nameChanged (before after : Policy) : ClampName → Bool
  | .slotLength => before.globals.slotCode != after.globals.slotCode
  | .w => before.globals.w != after.globals.w
  | .k => before.globals.k != after.globals.k
  | .heartbeat => before.globals.heartbeatCode != after.globals.heartbeatCode
  | .nightStart => before.globals.nightStart != after.globals.nightStart
  | .nightEnd => before.globals.nightEnd != after.globals.nightEnd
  | .drainConfirm => before.globals.drainConfirm != after.globals.drainConfirm
  | .drainLimit => before.globals.drainLimit != after.globals.drainLimit
  | .beaconDeadline => before.globals.beaconDeadline != after.globals.beaconDeadline
  | .rbMax => entryChanged before after CarrierValues.rbMax
  | .weight => entryChanged before after CarrierValues.weight
  | .warmupTimeout => entryChanged before after CarrierValues.warmupTimeout
  | .tSleep => entryChanged before after CarrierValues.tSleep
  | .tWake => entryChanged before after CarrierValues.tWake
  | .tDeep => entryChanged before after CarrierValues.tDeep
  | .cAdm => entryChanged before after (fun v => v.limits.map AnchorLimits.cAdm)
  | .cOvl => entryChanged before after (fun v => v.limits.map AnchorLimits.cOvl)
  | .budgetLimit => before.globals.budgetLimit != after.globals.budgetLimit

/-- The clamp names in the order of their bits (R163). -/
def clampNames : List ClampName :=
  [.slotLength, .w, .k, .heartbeat, .nightStart, .nightEnd, .drainConfirm, .drainLimit, .beaconDeadline, .rbMax, .weight,
   .warmupTimeout, .tSleep, .tWake, .tDeep, .cAdm, .cOvl, .budgetLimit]

/-- The set of clamped names of a generation (R144). -/
def clampedNames (before after : Policy) : List ClampName := clampNames.filter (nameChanged before after)

/-! ### Refusal and application -/

/-- A generation refused (R143). -/
def State.refuseGeneration (s : State) (reason : RefusalReason) (index : Nat) : State :=
  let g := mirrorGeneration s.loader.mirror
  State.hand { s with loader := { s.loader with lastRefused := g } } (.policyRefused g reason index)

/-- The first application begins window 1: number 1, count 0, clean (R35). -/
def State.beginWindows (s : State) : State :=
  if s.loader.applied.isNone then
    { s with timer := { s.timer with windowNumber := 1, windowTicks := 0, clean := true } }
  else s

/-- The ring of a policy (R150). -/
def ringOf (p : Policy) : Ring :=
  { base := p.globals.reportBase, sizeCode := p.globals.reportSizeCode, capacity := p.globals.ringCapacity }

/-- A ring re-shape: the new ring, an empty pending queue, every in-flight record void, both indices at the mirror's consumer
index, and GAP set if a record was discarded or voided (R155). -/
def ReportUnit.reshape (u : ReportUnit) (ring : Ring) (c : BitVec 16) : ReportUnit :=
  { u with
    ring := some ring
    pending := []
    updateOwed := false
    inFlightRecords := u.inFlightRecords.map (fun _ => false)
    producer := c
    consumer := c
    gap := u.gap || u.pending.any ReportWrite.isRecord || u.inFlightRecords.any id }

/-- Phase 2: the re-shape where the ring is absent or its window or capacity changes (R145, R146). -/
def State.takeRing (s : State) (p : Policy) : State :=
  if s.report.ring = some (ringOf p) then s
  else { s with report := s.report.reshape (ringOf p) (mirrorConsumer s.loader.mirror) }

/-- The window table of a generation (R57). -/
def windowTable (base : Nat) (p : Policy) : List Window :=
  p.presentCarriers.map (fun c => shapeWindow (c.val, (p.entries.get c).windowBase, (p.entries.get c).windowSizeCode))
    ++ [policyWindow base, shapeWindow (25, p.globals.reportBase, p.globals.reportSizeCode)]

/-- The Transit Path takes the application: window table and masters as a whole (R57). -/
def State.transitTakes (s : State) (p : Policy) : State :=
  { s with transit := { s.transit with
    windows := windowTable s.transit.policyBase p
    scheduler := some p.globals.scheduler
    fronthaul := some p.globals.fronthaul } }

/-- One held list at an application: emptied when the carrier is not present, becomes present or changes its window, else
re-clamped to the new RBmax (R72). -/
def takeHeld (old new : CarrierValues) (l : List Held) : List Held :=
  if !new.present || !old.present || old.windowBase != new.windowBase || old.windowSizeCode != new.windowSizeCode then []
  else l.map (fun h => { h with rb := min h.rb new.rbMax })

/-- The Descriptor Monitor takes the application (R72), the carrier table still holding the old values. -/
def State.monitorTakes (s : State) (p : Policy) : State :=
  { s with monitor := { held := tabulate (fun c => takeHeld (s.carrier c).values (p.entries.get c) (s.held c)) } }

/-- The Load Evaluator takes the application: its parameters at once, or kept back while the procedure of the window that
ends has not been run (R87); the Slot Timer keeps what the night question of that boundary needs (R40). -/
def State.evaluatorTakes (s : State) (p : Policy) : State :=
  let q : WindowParams := { w := p.globals.w, k := p.globals.k, entries := p.entries }
  match s.loader.applied with
  | none => { s with evaluator := { s.evaluator with params := some q, pendingParams := none } }
  | some _ =>
    if s.evaluator.lastEvaluated = s.timer.windowNumber - 1 then
      { s with evaluator := { s.evaluator with params := some q, pendingParams := none } }
    else
      { s with
        evaluator := { s.evaluator with pendingParams := some q }
        timer := { s.timer with nightHold := some s.nightValues } }

/-- The carrier records with the values of a policy (R1). -/
def State.copyValues (s : State) (p : Policy) : State :=
  { s with controller := { records := tabulate (fun c => { s.carrier c with values := p.entries.get c }) } }

/-- A carrier becomes present: its figures, then ON or QUEUED by its ready line (R12, R79). -/
def State.arrive (s : State) (c : Carrier) : State :=
  let s := s.setFigures c .arriving
  if (s.carrier c).values.sensing && !s.readyLevel c then s.queueCarrier c .policy .routine
  else s.transition c .on .policy none

/-- A carrier is withdrawn: ABSENT, its figures discarded (R13, R79). -/
def State.withdraw (s : State) (c : Carrier) : State :=
  (s.transition c .absent .policy none).setFigures c .zero

/-- The application at one carrier, by its state as the application finds it; `wasSensing` is its ready sensing before
(R12 to R15). -/
def State.applyCarrier (s : State) (c : Carrier) (wasSensing : Bool) : State :=
  let r := s.carrier c
  match r.state with
  | .absent => if r.values.present then s.arrive c else s
  | .on =>
    if !r.values.present then s.withdraw c
    else if !wasSensing && r.values.sensing && !s.readyLevel c then s.readyLost c
    else s
  | .faulted => if !r.values.present then s.withdraw c else s.queueCarrier c .policy .routine
  | .draining | .light | .deep | .queued | .warming => s

/-- The Carrier Controller takes the application: every carrier in ascending number (R11), then the arbiter's attempt for the
application (R134). -/
def State.controllerTakes (s : State) (p : Policy) : State :=
  let old := s
  ((carriers.foldl (fun s c => s.applyCarrier c (old.carrier c).values.sensing) (s.copyValues p))).attempt

/-- The Slot Timer takes the new slot length: the holdover generator's next tick one new slot length on (R32), and tick loss
detected where the loss timer has already reached twice the new length (R30). `before` is the slot length until now. -/
def State.timerTakes (s : State) (before : Nat) : State :=
  match s.timer.state with
  | .holdover =>
    if s.slotLength = before then s else { s with timer := { s.timer with holdover := some s.slotLength } }
  | .unsynced | .locked =>
    if s.slotLength ≠ before ∧ 2 * s.slotLength ≤ s.timer.lossTimer then s.addDue .tickLoss else s

/-- Phase 4: the heartbeat takes the new code; `old` is the code of the policy before, none at the first application
(R148). -/
def State.heartbeatTakes (s : State) (old : Option Nat) (new : Nat) : State :=
  match old with
  | none =>
    { s with loader := { s.loader with heartbeat := .alive, heartbeatTimer := if new = 0 then none else some 0 } }
  | some o =>
    if o = 0 then
      if new = 0 then s else { s with loader := { s.loader with heartbeat := .alive, heartbeatTimer := some 0 } }
    else if new = 0 then
      let t := { s with loader := { s.loader with heartbeat := .alive, heartbeatTimer := none } }
      if s.loader.heartbeat = .lapsed then t.hand (.heartbeat .alive) else t
    else s

/-- Phase 1: the clamped values become the applied policy (R145). -/
def State.install (s : State) (p : Policy) : State :=
  { s with loader := { s.loader with applied := some p, lastApplied := mirrorGeneration s.loader.mirror } }

/-- The application of a generation that passed validation, in its phases (R145). `written` is the policy as the mirror
holds it. The Load Evaluator's and the Slot Timer's keeping of old values is taken first, while the old policy stands. -/
def State.applyGeneration (s : State) (written : Policy) : State :=
  let p := clampPolicy written
  let before := s.slotLength
  let oldCode := s.loader.applied.map (fun q => q.globals.heartbeatCode)
  let s := (s.beginWindows.evaluatorTakes p).install p
  let s := (s.takeRing p).hand (.policyApplied (mirrorGeneration s.loader.mirror) (clampedNames written p))
  let s := ((s.transitTakes p).monitorTakes p).controllerTakes p
  (s.timerTakes before).heartbeatTakes oldCode p.globals.heartbeatCode

/-- The Policy Loader takes a tick or boundary at which it looks for a staged generation (R140). -/
def State.takeGeneration (s : State) : State :=
  if s.loader.staged then
    match validate s (readPolicy s.loader.mirror) with
    | some (reason, index) => s.refuseGeneration reason index
    | none => s.applyGeneration (readPolicy s.loader.mirror)
  else s

end Sys2Proof.Machine
end

