-- ==== Sys2Proof/Machine/Ticks.lean ====
section
/-! DEFINITION. Slot time: the taking of a tick by every block, external ticks, the entry to HOLDOVER and local ticks
(chapter 2), with retirement (R73), keying, drain and beacon counts (R98 to R107). -/

namespace Sys2Proof.Machine

/-! ### Retirement -/

/-- What a retired slot carries of its descriptor (R74). -/
structure SlotUse where
  rb : Nat
  beacon : Bool
  deriving DecidableEq, Repr

/-- The slot a list retires for a slot number: its entry with that tag, or an empty slot (R73). -/
def retiredSlot (l : List Held) (slot : Slot) : SlotUse :=
  match l.find? (fun h => h.tag == slot) with
  | some h => { rb := h.rb, beacon := h.beacon }
  | none => { rb := 0, beacon := false }

/-- The list with the entry of that tag removed (R73). -/
def listAfterRetirement (l : List Held) (slot : Slot) : List Held := l.filter (fun h => h.tag != slot)

/-! ### The Carrier Controller's taking of a tick for one carrier -/

/-- The record of a carrier after a tick with the slot it retired, if any (R6 to R9, R98, R99, R106, R107, R128). -/
def CarrierRecord.tick (r : CarrierRecord) (slot : Option SlotUse) : CarrierRecord :=
  match r.state with
  | .on => { r with minOnCount := countUp Config.countLimit r.minOnCount }
  | .draining =>
    { r with
      drainElapsed := countUp Config.countLimit r.drainElapsed
      emptyRun := match slot with
        | none => r.emptyRun
        | some u => if u.rb = 0 then countUp Config.emptyRunLimit r.emptyRun else 0 }
  | .light =>
    { r with
      lightCount := countUp Config.countLimit r.lightCount
      keyed := match slot with
        | none => r.keyed
        | some u => decide (0 < u.rb) || u.beacon
      beaconCount := match slot with
        | none => r.beaconCount
        | some u => if u.beacon then 0 else r.beaconCount + 1 }
  | .deep | .queued => { r with sleepCount := r.sleepCount.map (countUp Config.countLimit) }
  | .warming => { r with warmupElapsed := r.warmupElapsed + 1 }
  | .absent | .faulted => r

/-- The drain's end at a tick, on the counts the tick has left: confirmation at a retired slot first, then the deadline
(R100). -/
def drainDue (g : Globals) (c : Carrier) (r : CarrierRecord) (slot : Option SlotUse) : List Due :=
  match slot with
  | some u =>
    if g.drainConfirm ≤ r.emptyRun then [.drainConfirmed c u.beacon]
    else if g.drainLimit ≤ r.drainElapsed then [.drainDeadline c]
    else []
  | none => if g.drainLimit ≤ r.drainElapsed then [.drainDeadline c] else []

/-- The ready notice of a queued carrier: at the tick that brings its sleep counter to its minSleep (R121). A carrier whose
counter stood at its minSleep at entry to QUEUED, or that has been notified before, is notified at such a tick too, where a
generation has raised its minSleep above the counter (DESIGN CHOICE, notes/assumptions/39.md: R121's 'from below its minSleep to
equal to it' beside its 'at one tick for each such carrier' and its case of no notice). -/
def noticeDue (c : Carrier) (before after : CarrierRecord) : List Due :=
  match before.sleepCount, after.sleepCount with
  | some b, some a => if b < before.values.minSleep ∧ before.values.minSleep ≤ a then [.readyNotice c] else []
  | _, _ => []

/-- The events a tick brings about for a carrier: `before` as the tick finds the record, `after` as it leaves it. -/
def carrierDue (g : Globals) (c : Carrier) (before after : CarrierRecord) (slot : Option SlotUse) : List Due :=
  match before.state with
  | .draining => drainDue g c after slot
  | .light => if slot.isSome && decide (g.beaconDeadline ≤ after.beaconCount) then [.beaconStarved c] else []
  | .queued => noticeDue c before after
  | .warming => if after.values.warmupTimeout ≤ after.warmupElapsed then [.warmupExpiry c] else []
  | .absent | .on | .deep | .faulted => []

/-- A tick taken for one carrier by the Descriptor Monitor, the Load Evaluator and the Carrier Controller: at a locked tick a
present carrier retires one slot (R73), which is measured by the state it carries (R80), but for a carrier in `fresh`, made
present at this tick, whose slot counts in no window (R81). -/
def carrierTick (locked : Bool) (fresh : List Carrier) (s : State) (c : Carrier) : State :=
  let r := s.carrier c
  if locked && r.values.present then
    let u := retiredSlot (s.held c) s.timer.slot
    let s := s.setHeld c (listAfterRetirement (s.held c) s.timer.slot)
    let s := if fresh.contains c then s else s.setFigures c ((s.figures c).takeSlot r.state u.rb)
    let s := s.setCarrier c (r.tick (some u))
    { s with due := s.due ++ carrierDue s.globals c r (r.tick (some u)) (some u) }
  else
    let s := s.setCarrier c (r.tick none)
    { s with due := s.due ++ carrierDue s.globals c r (r.tick none) none }

/-- A tick taken by the Descriptor Monitor, the Load Evaluator and the Carrier Controller. -/
def State.slotsTick (s : State) (locked : Bool) (fresh : List Carrier) : State :=
  carriers.foldl (carrierTick locked fresh) s

/-! ### The other takers -/

/-- A tick taken by the Warm-up Arbiter: the spacing timer counts down, and from 1 to 0 expires (R124). -/
def State.arbiterTick (s : State) : State :=
  let t := { s with arbiter := { s.arbiter with spacing := s.arbiter.spacing - 1 } }
  if s.arbiter.spacing = 1 then t.addDue .spacingExpiry else t

/-- A tick taken by the heartbeat: a running timer counts, and lapses at its period of code × 4096 ticks (R147). -/
def State.heartbeatTick (s : State) : State :=
  match s.loader.heartbeatTimer with
  | none => s
  | some n =>
    let t := { s with loader := { s.loader with heartbeatTimer := some (n + 1) } }
    if s.globals.heartbeatCode * 4096 ≤ n + 1 then t.addDue .heartbeatLapse else t

/-- A tick taken by the site clock: the sub-second count advances while the clock is set (R38). -/
def State.clockTick (s : State) : State :=
  if s.timer.clockSet then
    let t := { s with timer := { s.timer with subSecond := s.timer.subSecond + 1 } }
    if s.slotsPerSecond ≤ s.timer.subSecond + 1 then t.addDue .clockSecond else t
  else s

/-- The window in progress closes at this tick: the count reaches W (R35). -/
def State.closesWindow (s : State) : Bool :=
  s.loader.applied.isSome && decide (s.globals.w ≤ s.timer.windowTicks + 1)

/-- A tick taken by the window count: nothing before the first application; an unlocked tick makes the window unclean; at the
boundary the next window begins (R35, R36). -/
def State.windowTick (s : State) (locked : Bool) : State :=
  if s.loader.applied.isNone then s
  else if s.closesWindow then
    { s with timer := { s.timer with windowNumber := s.timer.windowNumber + 1, windowTicks := 0, clean := true } }
  else { s with timer := { s.timer with windowTicks := s.timer.windowTicks + 1, clean := s.timer.clean && locked } }

/-- The boundary handed on at a tick that closes a window, with the number and clean flag of the window that ends (R37). -/
def State.boundaryDue (s : State) (locked : Bool) : List Due :=
  if s.closesWindow then [.boundary s.timer.windowNumber (s.timer.clean && locked) locked] else []

/-- The Policy Loader looks for a staged generation: at each tick before the first application, at a boundary after it
(R140). -/
def State.looks (s : State) : Bool := s.loader.applied.isNone || s.closesWindow

/-- The carriers that are not present, of which an application may make some present. -/
def State.absentees (s : State) : List Carrier := carriers.filter (fun c => !(s.carrier c).values.present)

/-- The application falls on this tick before the taking of some block (R34, R75, R140). -/
def State.appliesEarly (s : State) (order : TickOrder) : Bool := s.looks && (order.slotsLate || order.arbiterLate)

/-- The order of a tick the part makes on its own: the application last, and every event the tick brings about after it. -/
def usualOrder : TickOrder := { slotsLate := false, arbiterLate := false, handedWait := false, lapseFirst := false }

/-- A clock second and a heartbeat lapse that the tick has brought about, taken at once, and the Carrier Controller's taking of
the HEARTBEAT_LAPSED cause before its taking of the tick (R113, R147). Without a lapse nothing is taken. -/
def State.takeEarlyLapse (s : State) : State :=
  if s.due.contains .heartbeatLapse then
    let t := s.settleAtOnce
    State.takeFailSafe { t with due := t.due.erase (.failSafe .heartbeatLapsed) } .heartbeatLapsed
  else s

/-- The takings of a tick that come before an application made at it. -/
def State.firstTakings (s : State) (locked : Bool) (slotsWait arbiterWaits lapseFirst : Bool) : State :=
  let s := (s.clockTick.windowTick locked).heartbeatTick
  let s := if lapseFirst then s.takeEarlyLapse else s
  let s := if slotsWait then s else s.slotsTick locked []
  if arbiterWaits then s else s.arbiterTick

/-- The application at a tick, the events of the tick itself coming first, and the takings that come after it. -/
def State.lateTakings (s : State) (locked : Bool) (order : TickOrder) : State :=
  let fresh := s.absentees
  let s := s.settleAtOnce.takeGeneration
  let s := if order.slotsLate then s.slotsTick locked fresh else s
  if order.arbiterLate then s.arbiterTick else s

/-- A tick handed on to the blocks that count by it (R34). `order` says which of them take it after the application that
falls on the tick; where none does, the application stays outstanding and comes after them all. The boundary is handed on after
all of these takings, so that the verdict procedure reads the carrier table as this tick has left it (DESIGN CHOICE,
notes/assumptions/36.md: R34 gives the takings no order). -/
def State.handTick (s : State) (locked : Bool) (order : TickOrder) : State :=
  if s.appliesEarly order then
    let t := (s.firstTakings locked order.slotsLate order.arbiterLate order.lapseFirst).lateTakings locked order
    { t with due := t.due ++ s.boundaryDue locked }
  else
    let t := s.firstTakings locked false false order.lapseFirst
    { t with due := t.due ++ s.boundaryDue locked ++ (if s.looks then [.generation] else []) }

/-! ### The Slot Timer's events -/

/-- The slot counter advances by one, modulo 4096, and the loss timer restarts (R28). -/
def State.advanceSlot (s : State) : State :=
  { s with timer := { s.timer with slot := s.timer.slot + 1, lossTimer := 0 } }

/-- Entry to LOCKED at a marked external tick (R29). The TIMING record is made when the slot counter has been set, so that its
header carries slot 0 (DESIGN CHOICE, notes/assumptions/32.md: R29 gives its acts no order). -/
def State.lockTimer (s : State) : State :=
  State.hand
    { s with timer := { s.timer with state := .locked, slot := 0, lossTimer := 0, holdover := none } }
    (.timing .locked)

/-- A slip (R33). The TIMING record is made when the slot counter has been set, so that its header carries slot 0 (DESIGN
CHOICE, notes/assumptions/32.md: R33 gives its acts no order). -/
def State.slip (s : State) : State :=
  State.hand
    { s.flushAll with timer := { s.timer with slot := 0, clean := false, lossTimer := 0 } }
    (.timing .slip)

/-- An external tick taken according to the timer state and the mark (R28). -/
def State.takeExternalTick (s : State) (mark : Bool) (order : TickOrder) : State :=
  match s.timer.state, mark with
  | .unsynced, false => s.advanceSlot.handTick false order
  | .unsynced, true => s.lockTimer.handTick true order
  | .locked, false => s.advanceSlot.handTick true order
  | .locked, true => if s.timer.slot = 4095 then s.advanceSlot.handTick true order else s.slip.handTick true order
  | .holdover, false => s
  | .holdover, true => s.lockTimer.handTick true order

/-- A local tick of the holdover generator, one slot length before the next (R32). -/
def State.takeLocalTick (s : State) (order : TickOrder) : State :=
  State.handTick
    { s with timer := { s.timer with slot := s.timer.slot + 1, holdover := some s.slotLength } } false order

/-- Steps 1 to 4 of R31: HOLDOVER entered, every held list flushed, the window unclean, and a TIMING record handed. -/
def State.enterHoldover (s : State) : State :=
  State.hand
    { s.flushAll with timer := { s.timer with state := .holdover, clean := false, holdover := some 0 } }
    (.timing .holdover)

/-- Tick loss as detected at an application (R30): the steps of R31 in order, the Carrier Controller taking the HOLDOVER cause
before the first local tick. -/
def State.takeTickLoss (s : State) : State :=
  match s.timer.state with
  | .unsynced | .locked =>
    (s.enterHoldover.takeFailSafe .holdover).takeLocalTick usualOrder
  | .holdover => s

end Sys2Proof.Machine
end

