-- ==== Sys2Proof/Machine/Bus.lean ====
section
/-! DEFINITION. The Transit Path (chapter 3), the Descriptor Monitor's examination of writes (chapter 4), the live words of the
policy region (section 8.2) and the Report Unit's granted writes and their responses (chapter 9). -/

namespace Sys2Proof.Machine

/-! ### Blocks, classes and protection -/

/-- The classification of a block (R46). -/
inductive BlockClass where
  | descriptor (c : Carrier)
  | policy
  | report
  | none
  deriving DecidableEq, Repr

/-- The block of a byte address: its six least significant bits cleared (R45). -/
def blockOf (a : Nat) : Nat := a - a % 64

/-- A window contains an address. -/
def Window.contains (w : Window) (a : Nat) : Bool := decide (w.base ≤ a) && decide (a < w.base + w.size)

/-- The class a window index names (R46). -/
def classOfIndex (i : Nat) : BlockClass :=
  if h : i < 24 then .descriptor ⟨i, h⟩ else if i = 24 then .policy else .report

/-- The window index of a class, none for NONE (R46). -/
def BlockClass.index : BlockClass → Option Nat
  | .descriptor c => some c.val
  | .policy => some 24
  | .report => some 25
  | .none => Option.none

/-- The classification of a block by the window table (R46). -/
def TransitPath.classify (t : TransitPath) (block : Nat) : BlockClass :=
  match t.windows.find? (fun w => w.contains block) with
  | some w => classOfIndex w.index
  | Option.none => .none

/-- A request exceeds its 64-byte block (R45). -/
def crossesBlock (r : Request) : Bool := decide (64 < r.address.toNat % 64 + 8 * r.count)

/-- The classes of the blocks a request touches: its own block, and the next one if it crosses (R45). -/
def blockClasses (r : Request) (t : TransitPath) : List BlockClass :=
  if crossesBlock r then [t.classify (blockOf r.address.toNat), t.classify (blockOf r.address.toNat + 64)]
  else [t.classify (blockOf r.address.toNat)]

/-- The window index of a request: that of its first block, or else of its second (R46). -/
def requestWindow (r : Request) (t : TransitPath) : Option Nat := (blockClasses r t).findSome? BlockClass.index

/-- One protection test (R47). -/
def testFault (met : Bool) (k : FaultKind) : List FaultKind := if met then [k] else []

/-- The fault kind set of a request: every condition it meets (R47). -/
def requestFaults (r : Request) (t : TransitPath) : List FaultKind :=
  testFault (r.master == Config.ownMaster) .reservedMaster
    ++ testFault (crossesBlock r) .blockCross
    ++ testFault (r.kind == .write && (blockClasses r t).contains .policy && r.master != t.policyMaster) .foreignPolicy
    ++ testFault (r.kind == .write && (blockClasses r t).contains .report) .reportWrite

/-! ### The descriptor monitor's examination -/

/-- The result of the checks of R62: ignored, refused with a fault kind, or to be held. -/
inductive Examination where
  | ignored
  | refused (k : FaultKind)
  | held
  deriving DecidableEq, Repr

/-- The checks of R62 in their order, for the first beat of a cell in carrier `c`'s window. -/
def examine (c : Carrier) (timer : TimerState) (slot : Slot) (b : Beat) : Examination :=
  if b.enables.getLsbD 0 && descFormat b.data != 5 then .ignored
  else if b.enables != 0xFF then .refused .partialDescriptor
  else if descCarrier b.data != c.val then .refused .misfiledDescriptor
  else if timer != .locked then .refused .unsyncedDescriptor
  else if leadDistance (descTag b.data) slot = 0 ∨ 2048 ≤ leadDistance (descTag b.data) slot then .refused .lateDescriptor
  else if 5 ≤ leadDistance (descTag b.data) slot then .refused .earlyDescriptor
  else .held

/-- A held list with a new entry in its place by lead distance, or with the entry of that tag replaced (R69, R70). -/
def holdIn (slot : Slot) (h : Held) : List Held → List Held
  | [] => [h]
  | g :: rest =>
    if g.tag = h.tag then h :: rest
    else if leadDistance h.tag slot < leadDistance g.tag slot then h :: g :: rest
    else g :: holdIn slot h rest

/-- The entry a descriptor makes for a carrier: its RB at most the carrier's RBmax (R69). -/
def heldEntry (rbMax : Nat) (d : BeatData) : Held :=
  { tag := descTag d, rb := min (descRb d) rbMax, beacon := descBeacon d }

/-- A holding raises demand: the clamped RB is not 0 and the carrier is in DEEP or QUEUED (R71). -/
def demandRaised (state : CarrierState) (rb : Nat) : Bool := (state == .deep || state == .queued) && decide (0 < rb)

/-- One handing to the Descriptor Monitor: the cell's first beat is examined, and held with its demand, refused with a fault,
or ignored (R61, R62, R68, R69, R71). -/
def State.handDescriptor (s : State) (c : Carrier) (master : Master) (cell : Address) (b : Beat) : State :=
  match examine c s.timer.state s.timer.slot b with
  | .ignored => s
  | .refused k => s.latchFault { kinds := [k], master := master, kind := .write, address := cell, window := some c.val }
  | .held =>
    let h := heldEntry (s.carrier c).values.rbMax b.data
    let s := s.setHeld c (holdIn s.timer.slot h (s.held c))
    if demandRaised (s.carrier c).state h.rb then s.addDue (.demand c (descUrgent b.data)) else s

/-- The first beat of the cell at block offset `cell` (0x00 or 0x20), if the write covers it (R50). -/
def cellBeat (r : Request) (cell : Nat) : Option Beat :=
  if r.address.toNat % 64 ≤ cell then r.data[(cell - r.address.toNat % 64) / 8]? else none

/-- The cell at a block offset handed, if the write covers its first beat (R50). -/
def State.handCell (s : State) (c : Carrier) (r : Request) (cell : Nat) : State :=
  match cellBeat r cell with
  | some b => s.handDescriptor c r.master (BitVec.ofNat 40 (blockOf r.address.toNat + cell)) b
  | none => s

/-! ### The live words -/

/-- The heartbeat word acts (R138, R147). -/
def State.heartbeatWord (s : State) : State :=
  if s.loader.applied.isNone || decide (s.globals.heartbeatCode = 0) then s
  else
    let t := { s with loader := { s.loader with heartbeat := .alive, heartbeatTimer := some 0 } }
    match s.loader.heartbeat with
    | .alive => t
    | .lapsed => t.hand (.heartbeat .alive)

/-- The fault of a live word: the policy master's WRITE at the address of its first beat, window index 24 (R39, R139). -/
def State.liveFault (s : State) (k : FaultKind) (address : Address) : State :=
  s.latchFault { kinds := [k], master := s.transit.policyMaster, kind := .write, address := address, window := some 24 }

/-- The consumer index acts: accepted by the Report Unit, or ignored with CONSUMER_RANGE (R139, R154). -/
def State.consumerWord (s : State) (address : Address) : State :=
  match s.loader.applied with
  | none => s
  | some p =>
    if (s.report.producer - mirrorConsumer s.loader.mirror).toNat ≤ p.globals.ringCapacity then
      { s with report := { s.report with consumer := mirrorConsumer s.loader.mirror } }
    else s.liveFault .consumerRange address

/-- The clock-set word acts (R39). -/
def State.clockSetWord (s : State) (address : Address) : State :=
  let v := mirrorClockSet s.loader.mirror
  if v ≤ Config.lastSecond then { s with timer := { s.timer with seconds := v, clockSet := true, subSecond := 0 } }
  else if v = 0xFFFFFFFF then { s with timer := { s.timer with seconds := 0, clockSet := false, subSecond := 0 } }
  else s.liveFault .clockRange address

/-- The keep-awake mask acts: each capacity carrier whose bit rose from the mask before the write is woken, in ascending
carrier number (R23, R138). -/
def State.keepAwakeWord (s : State) (before : Memory) : State :=
  s.wakeAll (fun s c => s.isCapacity c && !mirrorKeepAwake before c && s.keepAwake c) .keepAwake .routine

/-- The Policy Loader takes a write handed to it: the beats merged at their offset, then each live word with an enabled byte
acts, in ascending offset order (R137, R138). -/
def State.takePolicyWrite (s : State) (offset : Nat) (address : Address) (data : List Beat) : State :=
  let before := s.loader.mirror
  let s := { s with loader := { s.loader with mirror := mergeBeats before offset data } }
  let s := if touches offset data 0x004 4 then s.heartbeatWord else s
  let s := if touches offset data 0x008 2 then s.consumerWord address else s
  let s := if touches offset data 0x00C 4 then s.clockSetWord address else s
  if touches offset data 0x010 3 then s.keepAwakeWord before else s

/-! ### Taking a request -/

/-- A forwarded write handed by its block: POLICY to the Policy Loader if it is the policy master's (R49), DESCRIPTOR to the
Descriptor Monitor if it is the scheduler master's, first the cell at 0x00 and then the one at 0x20 (R50). -/
def State.handWrite (s : State) (r : Request) : State :=
  match s.transit.classify (blockOf r.address.toNat) with
  | .policy =>
    if r.master = s.transit.policyMaster then
      s.takePolicyWrite (r.address.toNat - s.transit.policyBase) r.address r.data
    else s
  | .descriptor c => if s.transit.scheduler = some r.master then (s.handCell c r 0x00).handCell c r 0x20 else s
  | .report => s
  | .none => s

/-- The mark of the beat at a block offset: FIRST at cell offset 0, else LATER (R53). -/
def markAt (offset : Nat) : BlankMark := if offset % 32 = 0 then .first else .later

/-- The blanking mask of a forwarded READ, if it is marked (R53). -/
def State.blankMask (s : State) (r : Request) : Option (List BlankMark) :=
  match s.transit.classify (blockOf r.address.toNat) with
  | .descriptor c =>
    if s.transit.fronthaul = some r.master ∧ (s.carrier c).state.dark then
      some ((List.range r.count).map (fun i => markAt (r.address.toNat % 64 + 8 * i)))
    else none
  | .policy => none
  | .report => none
  | .none => none

/-- The state with an entry at the tail of the in-flight list. -/
def State.appendEntry (s : State) (e : InFlight) : State :=
  { s with transit := { s.transit with inFlight := s.transit.inFlight ++ [e] } }

/-- The state with a request sent on the downstream port. -/
def State.send (s : State) (r : Request) : State :=
  { s with outside := { s.outside with sentDownstream := s.outside.sentDownstream ++ [r] } }

/-- The state with a response given on the upstream port. -/
def State.answer (s : State) (a : Answer) : State :=
  { s with outside := { s.outside with givenUpstream := s.outside.givenUpstream ++ [a] } }

/-- The local answer of an entry: ERROR, with one zero beat for each beat of a READ (R48). -/
def localAnswer (e : InFlight) : Answer :=
  { master := e.master, status := .error
    beats := match e.kind with
      | .read => List.replicate e.count 0
      | .write => [] }

/-- The leading LOCAL_ANSWER entries of a list, and the list without them. -/
def splitLocals : List InFlight → List InFlight × List InFlight
  | [] => ([], [])
  | e :: rest =>
    match e.disposition with
    | .localAnswer => (e :: (splitLocals rest).1, (splitLocals rest).2)
    | .forwarded => ([], e :: rest)

/-- Every LOCAL_ANSWER entry at the head leaves: answered, or without an answer where it is abandoned (R48, R52, R58). -/
def State.answerLocals (s : State) : State :=
  let p := splitLocals s.transit.inFlight
  { s with
    transit := { s.transit with inFlight := p.2 }
    outside := { s.outside with
      givenUpstream := s.outside.givenUpstream ++ (p.1.filter (fun e => !e.abandoned)).map localAnswer } }

/-- An UPSTREAM entry for a request (R51). -/
def upstreamEntry (r : Request) (d : Disposition) (mask : Option (List BlankMark)) : InFlight :=
  { origin := .upstream, kind := r.kind, disposition := d, abandoned := false, mask := mask, master := r.master, count := r.count }

/-- A request refused: its fault handed, its entry marked for a local answer, which is given at once at the head (R48). -/
def State.refuseRequest (s : State) (r : Request) (kinds : List FaultKind) : State :=
  let s := s.latchFault
    { kinds := kinds, master := r.master, kind := r.kind, address := r.address, window := requestWindow r s.transit }
  (s.appendEntry (upstreamEntry r .localAnswer none)).answerLocals

/-- A request forwarded: sent downstream unchanged, a WRITE handed and a READ marked where they call for it, and an entry
appended (R44). -/
def State.forwardRequest (s : State) (r : Request) : State :=
  let mask := match r.kind with
    | .read => s.blankMask r
    | .write => none
  let s := s.send r
  let s := match r.kind with
    | .read => s
    | .write => s.handWrite r
  s.appendEntry (upstreamEntry r .forwarded mask)

/-- A request taken: the turn set, then forwarded if it meets no condition of R47 and refused otherwise (R44). -/
def State.takeRequest (s : State) (r : Request) : State :=
  let s := { s with transit := { s.transit with turn := .upstream } }
  if requestFaults r s.transit = [] then s.forwardRequest r else s.refuseRequest r (requestFaults r s.transit)

/-! ### Report writes -/

/-- A WRITE of the part's own, with every byte enabled (R56, R162). -/
def ownWrite (address : Nat) (beats : List BeatData) : Request :=
  { master := Config.ownMaster, kind := .write, address := BitVec.ofNat 40 address, count := beats.length
    data := beats.map (fun d => { data := d, enables := 0xFF }) }

/-- The form of a report write. -/
def ReportWrite.form : ReportWrite → ReportForm
  | .ringRecord _ _ => .ringRecord
  | .statusBlock _ _ => .statusBlock
  | .producerUpdate => .producerUpdate

/-- The sequence number of a ring record write at its grant: the producer index plus the live writes in flight (R153). -/
def ReportUnit.nextSequence (u : ReportUnit) : BitVec 16 :=
  u.producer + BitVec.ofNat 16 (u.inFlightRecords.filter id).length

/-- The address of the cell of a sequence number (R150, R162). -/
def Ring.cell (ring : Ring) (sequence : BitVec 16) : Nat := ring.base + 256 + 32 * (sequence.toNat % ring.capacity)

/-- The request a report write makes at its grant (R153, R162). -/
def ReportUnit.request (u : ReportUnit) (ring : Ring) : ReportWrite → Request
  | .ringRecord gap r => ownWrite (ring.cell u.nextSequence) (encodeRecord gap r)
  | .statusBlock address beats => ownWrite address.toNat beats
  | .producerUpdate => ownWrite ring.base [packBeat [(0, u.producer.toNat)]]

/-- The Report Unit after the grant of its oldest write `w`: the write leaves, the place it frees goes to an owed producer
update, and a ring record write joins those in flight as live (R151, R153). -/
def ReportUnit.granted (u : ReportUnit) (w : ReportWrite) (rest : List ReportWrite) : ReportUnit :=
  { u with
    pending := if u.updateOwed then rest ++ [.producerUpdate] else rest
    updateOwed := false
    inFlightRecords := if w.isRecord then u.inFlightRecords ++ [true] else u.inFlightRecords }

/-- An OWN entry for a report write (R51, R56). -/
def ownEntry (w : ReportWrite) (r : Request) : InFlight :=
  { origin := .own w.form, kind := .write, disposition := .forwarded, abandoned := false, mask := none
    master := Config.ownMaster, count := r.count }

/-- The oldest pending report write granted the downstream slot (R55, R56). -/
def State.grantReport (s : State) : State :=
  match s.report.ring, s.report.pending with
  | some ring, w :: rest =>
    let r := s.report.request ring w
    let s := { s with
      transit := { s.transit with turn := .report }
      report := s.report.granted w rest }
    (s.send r).appendEntry (ownEntry w r)
  | _, _ => s

/-- The response to the oldest ring record write in flight (R153). -/
def ReportUnit.recordAnswered (u : ReportUnit) (capacity : Nat) (status : ResponseStatus) : ReportUnit :=
  match u.inFlightRecords with
  | [] => u
  | false :: rest => { u with inFlightRecords := rest }
  | true :: rest =>
    if status = .ok ∧ u.unconsumed < capacity then
      ReportUnit.updateDue { u with inFlightRecords := rest, producer := u.producer + 1 }
    else { u with inFlightRecords := rest.map (fun _ => false), gap := true }

/-- The Report Unit takes the status of one of its writes: only a ring record's has an effect (R151, R153, R156). -/
def State.reportAnswered (s : State) (form : ReportForm) (status : ResponseStatus) : State :=
  match form, s.report.ring with
  | .ringRecord, some ring => { s with report := s.report.recordAnswered ring.capacity status }
  | _, _ => s

/-! ### The downstream arbiter -/

/-- The downstream slot can be given: fewer than 32 entries in flight, and a downstream port that accepts (R43, R55). -/
def State.slotFree (s : State) : Bool :=
  decide (s.transit.inFlight.length < Config.inFlightLimit) && decide (s.transit.owedAnswers = 0)

/-- A report write waits. -/
def State.reportWaits (s : State) : Bool := s.report.ring.isSome && !s.report.pending.isEmpty

/-- The side the arbiter gives the slot, if any (R55). -/
def State.arbiterChoice (s : State) : Option Side :=
  if s.slotFree then
    match !s.transit.waiting.isEmpty, s.reportWaits with
    | true, false => some .upstream
    | false, true => some .report
    | true, true => if s.transit.turn = .report then some .upstream else some .report
    | false, false => none
  else none

/-- One grant to the side chosen (R44, R55, R56). -/
def State.grantSide (s : State) (side : Side) : State :=
  match side with
  | .report => s.grantReport
  | .upstream =>
    match s.transit.waiting with
    | [] => s
    | r :: rest => State.takeRequest { s with transit := { s.transit with waiting := rest } } r

/-- The arbiter grants until the side named has had the turn: at most one grant of the other side comes before it (R55). -/
def State.arbitrate (s : State) (side : Side) : State :=
  match s.arbiterChoice with
  | none => s
  | some first =>
    let t := s.grantSide first
    if first = side then t
    else
      match t.arbiterChoice with
      | none => t
      | some second => t.grantSide second

/-- A request presented on the upstream port, behind those already waiting (R42, R44). -/
def State.present (s : State) (r : Request) : State :=
  { s with transit := { s.transit with waiting := s.transit.waiting ++ [r] } }

/-- A write of the policy master at an offset of the policy region. -/
def State.policyRequest (s : State) (offset : Nat) (data : List Beat) : Request :=
  { master := s.transit.policyMaster, kind := .write, address := BitVec.ofNat 40 (s.transit.policyBase + offset)
    count := data.length, data := data }

/-- A write of the policy master presented, and the upstream side given the turn. -/
def State.policyMasterWrites (s : State) (offset : Nat) (data : List Beat) : State :=
  (s.present (s.policyRequest offset data)).arbitrate .upstream

/-! ### Downstream responses -/

/-- The response forwarded for a head entry: its beats rewritten by its mask when the status is OK (R52, R54). -/
def forwardedAnswer (e : InFlight) (status : ResponseStatus) (beats : List BeatData) : Answer :=
  { master := e.master, status := status
    beats := match e.mask, status with
      | some mask, .ok => List.zipWith blankBeat mask beats
      | _, _ => beats }

/-- A response given to the head entry, which leaves (R52). -/
def State.answerHead (s : State) (e : InFlight) (rest : List InFlight) (status : ResponseStatus) (beats : List BeatData) :
    State :=
  let s := { s with transit := { s.transit with inFlight := rest } }
  match e.origin with
  | .own form => s.reportAnswered form status
  | .upstream => if e.abandoned then s else s.answer (forwardedAnswer e status beats)

/-- A downstream response taken: discarded if it answers a request sent before a power-on reset or if nothing is in flight
(R43), else given to the head entry, and the local answers behind it given within the event (R52). -/
def State.takeResponse (s : State) (status : ResponseStatus) (beats : List BeatData) : State :=
  if s.transit.owedAnswers ≠ 0 then
    { s with transit := { s.transit with owedAnswers := s.transit.owedAnswers - 1 } }
  else
    match s.transit.inFlight with
    | [] => s
    | e :: rest =>
      match e.disposition with
      | .localAnswer => s
      | .forwarded => (s.answerHead e rest status beats).answerLocals

end Sys2Proof.Machine
end

