-- ==== Sys2Proof/Machine/Outstanding.lean ====
section
/-! DEFINITION. The events handed between blocks and not yet taken: taking one, and taking those that must come before the
next command or the next tick (notes/assumptions/1.md and 2.md). -/

namespace Sys2Proof.Machine

/-- An outstanding event taken. -/
def State.takeDue (s : State) (d : Due) : State :=
  match d with
  | .clockSecond => s.takeClockSecond
  | .drainConfirmed c beacon => s.takeDrainConfirmed c beacon
  | .drainDeadline c => s.takeDrainDeadline c
  | .beaconStarved c => s.takeBeaconStarved c
  | .heartbeatLapse => s.takeHeartbeatLapse
  | .readyNotice c => s.takeReadyNotice c
  | .warmupExpiry c => s.takeWarmupExpiry c
  | .spacingExpiry => s.takeSpacingExpiry
  | .boundary window clean _ => s.takeBoundary window clean
  | .generation => s.takeGeneration
  | .verdicts fresh list => s.takeVerdicts fresh list list.length
  | .grant c => s.takeGrant c
  | .demand c urgent => s.takeDemand c urgent
  | .failSafe cause => s.takeFailSafe cause
  | .tickLoss => s.takeTickLoss

/-- The first outstanding event that `which` picks, with the rest. -/
def firstDue (which : Due → Bool) : List Due → Option (Due × List Due)
  | [] => none
  | d :: rest =>
    if which d then some (d, rest)
    else match firstDue which rest with
      | some (e, others) => some (e, d :: others)
      | none => none

/-- An event handed to the Carrier Controller that may stay outstanding over a tick. The HOLDOVER cause may not: R100
and R106 take it to be taken by the second tick of a holdover. DESIGN CHOICE: log 5. -/
def Due.mayWait : Due → Bool
  | .grant _ => true
  | .demand _ _ => true
  | .failSafe .heartbeatLapsed => true
  | .failSafe .fabricReset => true
  | .failSafe .holdover => false
  | .clockSecond => false
  | .drainConfirmed _ _ => false
  | .drainDeadline _ => false
  | .beaconStarved _ => false
  | .heartbeatLapse => false
  | .readyNotice _ => false
  | .warmupExpiry _ => false
  | .spacingExpiry => false
  | .boundary _ _ _ => false
  | .generation => false
  | .verdicts _ _ => false
  | .tickLoss => false

/-- The outstanding event taken next where no command names one: the first of those that are taken at once, or else the
oldest. With `wait` set, those that may wait are passed over. Tick loss comes after all others, since it makes a tick, before
which every verdict is taken (R25). -/
def nextDue (wait : Bool) (l : List Due) : Option (Due × List Due) :=
  match firstDue Due.atOnce l with
  | some x => some x
  | none =>
    match firstDue (fun d => !(wait && d.mayWait) && d != .tickLoss) l with
    | some x => some x
    | none => firstDue (fun d => d == .tickLoss) l

/-- Outstanding events taken one after the other, each the one that `next` picks, at most so many. -/
def takeSteps (next : List Due → Option (Due × List Due)) : Nat → State → State
  | 0, s => s
  | n + 1, s =>
    match next s.due with
    | none => s
    | some (d, rest) => takeSteps next n (State.takeDue { s with due := rest } d)

/-- Every outstanding event taken, those they bring about included, or with `wait` set all but those that may wait. Each event
brings about at most one other but for the grants, of which there is at most one for each entry of the wake queue, and one
tick where tick loss is outstanding. -/
def State.settle (s : State) (wait : Bool) : State := takeSteps (nextDue wait) (4 * s.due.length + 300) s

/-- An event that may put a carrier into DRAINING: a verdict list with a DRAIN, or the boundary of a clean window, whose procedure
may issue one (R24, R95). -/
def Due.mayDrain : Due → Bool
  | .verdicts _ list => list.any (fun v => v.kind == .drain)
  | .boundary _ clean _ => clean
  | .clockSecond => false
  | .drainConfirmed _ _ => false
  | .drainDeadline _ => false
  | .beaconStarved _ => false
  | .heartbeatLapse => false
  | .readyNotice _ => false
  | .warmupExpiry _ => false
  | .spacingExpiry => false
  | .generation => false
  | .grant _ => false
  | .demand _ _ => false
  | .failSafe _ => false
  | .tickLoss => false

/-- The outstanding events that may put a carrier into DRAINING taken, oldest first, with the verdict lists that their boundaries
bring: at most one list for each. -/
def State.takeDrains (s : State) : State := takeSteps (firstDue Due.mayDrain) (2 * s.due.length) s

/-- The command names an outstanding event: the first that `which` picks is taken. Where none is outstanding the event does not
come about and nothing changes. -/
def State.takeNamed (s : State) (which : Due → Bool) : State :=
  match firstDue which s.due with
  | some (d, rest) => State.takeDue { s with due := rest } d
  | none => s

end Sys2Proof.Machine
end

