-- ==== Sys2Proof/Machine/BusCommands.lean ====
section
/-! DEFINITION. The commands of the two ports: UPSTREAM_REQUEST, the policy master's writes, REPORT_GRANT and
DOWNSTREAM_RESPONSE. -/

namespace Sys2Proof.Machine

/-- UPSTREAM_REQUEST: a request is presented, if one is given, and the arbiter serves the upstream side (R44, R55). -/
def execUpstreamRequest (request : Option Request) (s : State) : Host.Outcome State Fault Refusal :=
  match request with
  | some r => .next ((s.settleAtOnce.present r).arbitrate .upstream)
  | none => .next (s.settleAtOnce.arbitrate .upstream)

/-- POLICY_WRITE: the policy master writes beats at 8 × `beat` within the policy region (R49, R137). -/
def execPolicyWrite (beat : BitVec 8) (data : List Beat) (s : State) : Host.Outcome State Fault Refusal :=
  .next (s.settleAtOnce.policyMasterWrites (8 * beat.toNat) data)

/-- HEARTBEAT_WRITE: the policy master writes the heartbeat word at 0x004 (R147, R161). -/
def execHeartbeatWrite (value : BitVec 32) (enables : BitVec 4) (s : State) : Host.Outcome State Fault Refusal :=
  .next (s.settleAtOnce.policyMasterWrites 0x000 [wordBeat 4 value.toNat enables.toNat])

/-- CONSUMER_INDEX_WRITE: the policy master writes the consumer index at 0x008 (R139, R161). -/
def execConsumerIndexWrite (value : BitVec 16) (enables : BitVec 2) (s : State) : Host.Outcome State Fault Refusal :=
  .next (s.settleAtOnce.policyMasterWrites 0x008 [wordBeat 0 value.toNat enables.toNat])

/-- CLOCK_SET_WRITE: the policy master writes the clock-set word at 0x00C (R39, R161). -/
def execClockSetWrite (value : BitVec 32) (enables : BitVec 4) (s : State) : Host.Outcome State Fault Refusal :=
  .next (s.settleAtOnce.policyMasterWrites 0x008 [wordBeat 4 value.toNat enables.toNat])

/-- KEEP_AWAKE_WRITE: the policy master writes the keep-awake mask at 0x010 (R23, R161). -/
def execKeepAwakeWrite (value : BitVec 24) (enables : BitVec 3) (s : State) : Host.Outcome State Fault Refusal :=
  .next (s.settleAtOnce.policyMasterWrites 0x010 [wordBeat 0 value.toNat enables.toNat])

/-- REPORT_GRANT: the arbiter serves the Report Unit's side (R55, R56). -/
def execReportGrant (s : State) : Host.Outcome State Fault Refusal :=
  .next (s.settleAtOnce.arbitrate .report)

/-- DOWNSTREAM_RESPONSE: a response returns on the downstream port (R52). -/
def execDownstreamResponse (status : ResponseStatus) (beats : List BeatData) (s : State) :
    Host.Outcome State Fault Refusal :=
  .next (s.settleAtOnce.takeResponse status beats)

end Sys2Proof.Machine
end

