-- ==== Sys2Proof/Machine/CarrierCommands.lean ====
section
/-! DEFINITION. The commands at the Carrier Controller: the ends of a drain, beacon starvation, ready lines, warm-up expiry,
ready notices, grants, demand and fail-safe wakes. -/

namespace Sys2Proof.Machine

/-- The event is a confirmed drain of the carrier. -/
def isDrainConfirmed (c : Carrier) (d : Due) : Bool := d == .drainConfirmed c true || d == .drainConfirmed c false

/-- The event is a demand for the carrier. -/
def isDemand (c : Carrier) (d : Due) : Bool := d == .demand c true || d == .demand c false

/-- DRAIN_CONFIRMED (R101). -/
def execDrainConfirmed (c : Carrier) (s : State) : Host.Outcome State Fault Refusal :=
  .next (s.takeNamed (isDrainConfirmed c))

/-- DRAIN_DEADLINE (R102). -/
def execDrainDeadline (c : Carrier) (s : State) : Host.Outcome State Fault Refusal :=
  .next (s.takeNamed (fun d => d == .drainDeadline c))

/-- BEACON_STARVED (R107). -/
def execBeaconStarved (c : Carrier) (s : State) : Host.Outcome State Fault Refusal :=
  .next (s.takeNamed (fun d => d == .beaconStarved c))

/-- READY_NOTICE (R121). -/
def execReadyNotice (c : Carrier) (s : State) : Host.Outcome State Fault Refusal :=
  .next (s.settleAtOnce.takeNamed (fun d => d == .readyNotice c))

/-- READY_RISE: the ready line goes high (R5, R129). -/
def execReadyRise (c : Carrier) (s : State) : Host.Outcome State Fault Refusal :=
  .next (s.settleAtOnce.takeReadyRise c)

/-- READY_FALL: the ready line goes low (R5, R15, R16). -/
def execReadyFall (c : Carrier) (s : State) : Host.Outcome State Fault Refusal :=
  .next (s.settleAtOnce.takeReadyFall c)

/-- WARMUP_EXPIRY (R128 to R131). -/
def execWarmupExpiry (c : Carrier) (s : State) : Host.Outcome State Fault Refusal :=
  .next (s.settleAtOnce.takeNamed (fun d => d == .warmupExpiry c))

/-- The event is a grant. -/
def isGrant : Due → Bool
  | .grant _ => true
  | _ => false

/-- GRANT (R26). Grants are taken in the order made (R123), so the carrier's is taken only where it is the oldest outstanding;
otherwise the event does not come about yet. -/
def execGrant (c : Carrier) (s : State) : Host.Outcome State Fault Refusal :=
  let s := s.settleAtOnce
  match firstDue isGrant s.due with
  | some (.grant d, rest) => .next (if d = c then State.takeGrant { s with due := rest } c else s)
  | _ => .next s

/-- DEMAND (R18). -/
def execDemand (c : Carrier) (s : State) : Host.Outcome State Fault Refusal :=
  .next (s.settleAtOnce.takeNamed (isDemand c))

/-- FAIL_SAFE_WAKE (R20). -/
def execFailSafeWake (cause : FailSafe) (s : State) : Host.Outcome State Fault Refusal :=
  .next (s.settleAtOnce.takeNamed (fun d => d == .failSafe cause))

end Sys2Proof.Machine
end

