-- ==== Sys2Proof/Machine/ResetCommands.lean ====
section
/-! DEFINITION. The two resets: POWER_ON_RESET and FABRIC_RESET. -/

namespace Sys2Proof.Machine

/-- The requests in flight that have been sent downstream. -/
def TransitPath.sentCount (t : TransitPath) : Nat := (t.inFlight.filter (fun e => e.disposition == .forwarded)).length

/-- POWER_ON_RESET: every block at its reset values, the straps sampled (R22, R27, R43, R77, R78, R115, R135, R136, R150).
The answers still owed for requests sent before it are remembered, since the downstream port accepts nothing until they have
come (R43). What lies outside the part is not touched: the ready lines, the requests waiting at the port, the outputs. -/
def execPowerOnReset (strapBase : BitVec 20) (strapMaster : Master) (s : State) : Host.Outcome State Fault Refusal :=
  .next
    { controller := .reset, timer := .reset
      transit := { TransitPath.reset strapBase strapMaster with
        waiting := s.transit.waiting
        owedAnswers := s.transit.owedAnswers + s.transit.sentCount }
      monitor := .reset, evaluator := .reset, arbiter := .reset, loader := .reset, report := .reset
      outside := s.outside, due := [], pending := s.pending }

/-- The Transit Path takes a fabric reset: every UPSTREAM entry is abandoned, and a request not yet taken is the fabric's
(R58). -/
def State.abandonUpstream (s : State) : State :=
  { s with transit := { s.transit with
    inFlight := s.transit.inFlight.map (fun e => if e.origin = .upstream then { e with abandoned := true } else e)
    waiting := [] } }

/-- The Policy Loader takes a fabric reset: with a heartbeat code in force an ALIVE heartbeat lapses (R149). -/
def State.loaderFabricReset (s : State) : State :=
  if s.loader.applied.isSome && decide (s.globals.heartbeatCode ≠ 0) && (s.loader.heartbeat == .alive) then
    s.takeHeartbeatLapse
  else s

/-- The Report Unit takes a fabric reset: the latch emptied, then a FABRIC_RESET record handed (R159). -/
def State.reportFabricReset (s : State) : State :=
  State.hand { s with report := { s.report with latch := none } } .fabricReset

/-- The three takings that hand records, in the order given. -/
def State.orderedFabricReset (s : State) (order : ResetOrder) : State :=
  match order with
  | .controllerLoaderReport => ((s.takeFailSafe .fabricReset).loaderFabricReset).reportFabricReset
  | .controllerReportLoader => ((s.takeFailSafe .fabricReset).reportFabricReset).loaderFabricReset
  | .loaderControllerReport => ((s.loaderFabricReset).takeFailSafe .fabricReset).reportFabricReset
  | .reportControllerLoader => ((s.reportFabricReset).takeFailSafe .fabricReset).loaderFabricReset
  | .loaderReportController => ((s.loaderFabricReset).reportFabricReset).addDue (.failSafe .fabricReset)
  | .reportLoaderController => ((s.reportFabricReset).loaderFabricReset).addDue (.failSafe .fabricReset)

/-- FABRIC_RESET: the held lists flushed (R76), the upstream entries abandoned (R58), and the Carrier Controller's, the Policy
Loader's and the Report Unit's takings (R21, R149, R159). The Slot Timer, the Load Evaluator and the Warm-up Arbiter are not
reached (R41, R78, R115). -/
def execFabricReset (order : ResetOrder) (s : State) : Host.Outcome State Fault Refusal :=
  .next ((s.settleAtOnce.abandonUpstream.flushAll).orderedFabricReset order)

end Sys2Proof.Machine
end

