-- ==== Sys2Proof/Machine/TimingCommands.lean ====
section
/-! DEFINITION. The commands of slot time: EXTERNAL_TICK, TICK_LOSS, LOCAL_TICK, CLOCK_SECOND_ADVANCE, SPACING_EXPIRY and
HEARTBEAT_LAPSE. A tick comes after every event outstanding (R25; notes/assumptions/2.md), but those that the operand lets
wait. -/

namespace Sys2Proof.Machine

/-- EXTERNAL_TICK: ignored in HOLDOVER without the mark, else taken by the timer state and the mark (R28). -/
def execExternalTick (mark : Bool) (order : TickOrder) (s : State) : Host.Outcome State Fault Refusal :=
  if s.timer.state = .holdover ∧ mark = false then .next s
  else .next ((s.settle order.handedWait).takeExternalTick mark order)

/-- The events outstanding at the first local tick of a holdover taken before it, with the HOLDOVER cause in the place given
among them or left outstanding over the tick (R25, R31, R100). The cause comes after every DRAIN of the boundaries outstanding,
so that it ends each drain and none is left after it (R100, R112; DEDUCED, notes/assumptions/37.md). -/
def State.takeHoldoverCause (s : State) (cause : HoldoverOrder) (wait : Bool) : State :=
  let s := s.takeDrains
  match cause with
  | .beforeOutstanding => (s.takeFailSafe .holdover).settle wait
  | .afterOutstanding => (s.addDue (.failSafe .holdover)).settle wait
  | .afterLocalTick => (s.settle wait).addDue (.failSafe .holdover)

/-- TICK_LOSS: from UNSYNCED and LOCKED, HOLDOVER is entered and its cause handed, the events outstanding are taken, and the
first local tick is made (R31). Steps 1 to 4 come before them, since events of other blocks may be taken between the steps.
In HOLDOVER the loss timer does not run (R30). -/
def execTickLoss (cause : HoldoverOrder) (order : TickOrder) (s : State) : Host.Outcome State Fault Refusal :=
  let s := s.settleAtOnce
  match s.timer.state with
  | .holdover => .next s
  | .unsynced | .locked => .next ((s.enterHoldover.takeHoldoverCause cause order.handedWait).takeLocalTick order)

/-- LOCAL_TICK: a local tick of the holdover generator; none is made outside HOLDOVER (R32). -/
def execLocalTick (order : TickOrder) (s : State) : Host.Outcome State Fault Refusal :=
  let s := s.settle order.handedWait
  match s.timer.state with
  | .holdover => .next (s.takeLocalTick order)
  | .unsynced | .locked => .next s

/-- CLOCK_SECOND_ADVANCE: the clock second that is outstanding is taken (R38). -/
def execClockSecondAdvance (s : State) : Host.Outcome State Fault Refusal :=
  .next (s.takeNamed (fun d => d == .clockSecond))

/-- SPACING_EXPIRY: the expiry that is outstanding is taken (R124). -/
def execSpacingExpiry (s : State) : Host.Outcome State Fault Refusal :=
  .next (s.settleAtOnce.takeNamed (fun d => d == .spacingExpiry))

/-- HEARTBEAT_LAPSE: the lapse that is outstanding is taken (R147). -/
def execHeartbeatLapse (s : State) : Host.Outcome State Fault Refusal :=
  .next (s.takeNamed (fun d => d == .heartbeatLapse))

end Sys2Proof.Machine
end

