-- ==== Sys2Proof/Machine/WindowCommands.lean ====
section
/-! DEFINITION. The commands of a window's end: WINDOW_BOUNDARY, VERDICT_LIST and GENERATION_APPLICATION. -/

namespace Sys2Proof.Machine

/-- The event is a boundary. -/
def isBoundary : Due → Bool
  | .boundary _ _ _ => true
  | _ => false

/-- The event is a verdict list. -/
def isVerdicts : Due → Bool
  | .verdicts _ _ => true
  | _ => false

/-- WINDOW_BOUNDARY: the outstanding boundary is taken by the Load Evaluator and the Report Unit (R37, R88, R156, R157). The
Policy Loader's taking of it is GENERATION_APPLICATION (R140). -/
def execWindowBoundary (s : State) : Host.Outcome State Fault Refusal :=
  .next (s.settleAtOnce.takeNamed isBoundary)

/-- The number of verdicts to take of a list. -/
def verdictCount (upTo : Option Nat) (list : List Verdict) : Nat :=
  match upTo with
  | some n => n
  | none => list.length

/-- VERDICT_LIST: the Carrier Controller takes the outstanding list, or its first verdicts (R24, R25). -/
def execVerdictList (upTo : Option Nat) (s : State) : Host.Outcome State Fault Refusal :=
  let s := s.settleAtOnce
  match firstDue isVerdicts s.due with
  | some (.verdicts fresh list, rest) => .next (State.takeVerdicts { s with due := rest } fresh list (verdictCount upTo list))
  | _ => .next s

/-- GENERATION_APPLICATION: the Policy Loader takes the outstanding tick or boundary: a staged generation is validated, and
applied or refused (R140 to R146). -/
def execGenerationApplication (s : State) : Host.Outcome State Fault Refusal :=
  .next (s.settleAtOnce.takeNamed (fun d => d == .generation))

end Sys2Proof.Machine
end

