-- ==== Sys2Proof/Machine/Dispatch.lean ====
section
/-! DEFINITION. One arm per command. -/

namespace Sys2Proof.Machine

def exec (i : Instr) (s : State) : Host.Outcome State Fault Refusal :=
  match i with
  | .powerOnReset strapBase strapMaster => Sys2Proof.Machine.execPowerOnReset strapBase strapMaster s
  | .fabricReset order => Sys2Proof.Machine.execFabricReset order s
  | .externalTick zeroMark order => Sys2Proof.Machine.execExternalTick zeroMark order s
  | .tickLoss cause order => Sys2Proof.Machine.execTickLoss cause order s
  | .localTick order => Sys2Proof.Machine.execLocalTick order s
  | .drainConfirmed c => Sys2Proof.Machine.execDrainConfirmed c s
  | .drainDeadline c => Sys2Proof.Machine.execDrainDeadline c s
  | .beaconStarved c => Sys2Proof.Machine.execBeaconStarved c s
  | .readyNotice c => Sys2Proof.Machine.execReadyNotice c s
  | .clockSecondAdvance => Sys2Proof.Machine.execClockSecondAdvance s
  | .windowBoundary => Sys2Proof.Machine.execWindowBoundary s
  | .verdictList upTo => Sys2Proof.Machine.execVerdictList upTo s
  | .generationApplication => Sys2Proof.Machine.execGenerationApplication s
  | .upstreamRequest request => Sys2Proof.Machine.execUpstreamRequest request s
  | .policyWrite beat data => Sys2Proof.Machine.execPolicyWrite beat data s
  | .heartbeatWrite value enables => Sys2Proof.Machine.execHeartbeatWrite value enables s
  | .consumerIndexWrite value enables => Sys2Proof.Machine.execConsumerIndexWrite value enables s
  | .clockSetWrite value enables => Sys2Proof.Machine.execClockSetWrite value enables s
  | .keepAwakeWrite value enables => Sys2Proof.Machine.execKeepAwakeWrite value enables s
  | .downstreamResponse status beats => Sys2Proof.Machine.execDownstreamResponse status beats s
  | .reportGrant => Sys2Proof.Machine.execReportGrant s
  | .readyRise c => Sys2Proof.Machine.execReadyRise c s
  | .readyFall c => Sys2Proof.Machine.execReadyFall c s
  | .warmupExpiry c => Sys2Proof.Machine.execWarmupExpiry c s
  | .spacingExpiry => Sys2Proof.Machine.execSpacingExpiry s
  | .grant c => Sys2Proof.Machine.execGrant c s
  | .demand c => Sys2Proof.Machine.execDemand c s
  | .failSafeWake cause => Sys2Proof.Machine.execFailSafeWake cause s
  | .heartbeatLapse => Sys2Proof.Machine.execHeartbeatLapse s

end Sys2Proof.Machine
end

