-- ==== Sys2Proof/Machine/Idle.lean ====
section
/-! DEFINITION. What the part does while no command waits: it takes its outstanding events, and otherwise local time passes
(DESIGN CHOICE, notes/assumptions/3.md). -/

namespace Sys2Proof.Machine

/-- The loss timer, which runs in UNSYNCED and LOCKED, has reached twice the slot length (R30). -/
def State.lossReached (s : State) : Bool :=
  match s.timer.state with
  | .unsynced | .locked => decide (2 * s.slotLength ≤ s.timer.lossTimer)
  | .holdover => false

/-- The holdover generator's next tick is due (R32). -/
def State.localTickReached (s : State) : Bool :=
  match s.timer.state with
  | .unsynced | .locked => false
  | .holdover => s.timer.holdover == some 0

/-- One microsecond of local time passes: for the loss timer in UNSYNCED and LOCKED, for the holdover generator in HOLDOVER
(R27, R30, R32). -/
def State.passTime (s : State) : State :=
  match s.timer.state with
  | .unsynced | .locked => { s with timer := { s.timer with lossTimer := s.timer.lossTimer + 1 } }
  | .holdover => { s with timer := { s.timer with holdover := s.timer.holdover.map (fun n => n - 1) } }

/-- The part on its own: an outstanding event is taken; or the downstream slot is given to a side that waits (R55); or tick
loss is detected; or a local tick is made; or a microsecond of local time passes. -/
def State.idle (s : State) : State :=
  match nextDue false s.due with
  | some (d, rest) => State.takeDue { s with due := rest } d
  | none =>
    match s.arbiterChoice with
    | some side => s.grantSide side
    | none =>
      if s.lossReached then s.takeTickLoss
      else if s.localTickReached then s.takeLocalTick usualOrder
      else s.passTime

end Sys2Proof.Machine
end

