-- ==== Sys2Proof/Safety.lean ====
section
/-! DEFINITION. What the claims are stated in: the parts of the state and what is left alone, and the laws of the spec that
every step keeps. -/

namespace Sys2Proof.Machine

/-! ### Frames -/

/-- The parts of the state a frame names: the eight blocks, the ready lines, the part's outputs on its two ports, the events
outstanding and the commands waiting. -/
inductive Part where
  | controller
  | timer
  | transit
  | monitor
  | evaluator
  | arbiter
  | loader
  | report
  | readyLines
  | outputs
  | due
  | pending
  deriving DecidableEq, Repr

/-- A part is the same in both states. -/
def SamePart (s t : State) : Part → Prop
  | .controller => t.controller = s.controller
  | .timer => t.timer = s.timer
  | .transit => t.transit = s.transit
  | .monitor => t.monitor = s.monitor
  | .evaluator => t.evaluator = s.evaluator
  | .arbiter => t.arbiter = s.arbiter
  | .loader => t.loader = s.loader
  | .report => t.report = s.report
  | .readyLines => t.outside.readyHigh = s.outside.readyHigh
  | .outputs => t.outside.sentDownstream = s.outside.sentDownstream ∧ t.outside.givenUpstream = s.outside.givenUpstream
  | .due => t.due = s.due
  | .pending => t.pending = s.pending

/-- Every part not listed is the same in both states. -/
def OnlyChanges (s t : State) (parts : List Part) : Prop := ∀ p : Part, p ∉ parts → SamePart s t p

/-- Everything the part itself holds but the commands waiting: what a tick or an outstanding event can change. -/
def inner : List Part :=
  [.controller, .timer, .transit, .monitor, .evaluator, .arbiter, .loader, .report, .due]

/-- Everything but the ready lines and the commands waiting: what the two ports can change. -/
def ports : List Part := .outputs :: inner

/-- The records of all carriers but one are the same. -/
def OthersKept (s t : State) (c : Carrier) : Prop := ∀ d : Carrier, d ≠ c → t.carrier d = s.carrier d

/-- The figures of all carriers but one are the same. -/
def OtherFiguresKept (s t : State) (c : Carrier) : Prop := ∀ d : Carrier, d ≠ c → t.figures d = s.figures d

/-- The held lists of all carriers but one are the same. -/
def OtherHeldKept (s t : State) (c : Carrier) : Prop := ∀ d : Carrier, d ≠ c → t.held d = s.held d

/-- No event is outstanding that is taken before any other command. -/
def Quiet (s : State) : Prop := ∀ d ∈ s.due, d.atOnce = false

/-- The Report Unit of the state after one record of the state has been handed to it (R152). -/
def Handed (s t : State) (body : RecordBody) : Prop :=
  t.report = s.report.hand (s.makeRecord s.timer.windowNumber body)

/-- The upstream side is given the slot for a request presented now: it waits alone or has the turn, and the slot is free
(R44, R55). -/
def UpstreamNext (s : State) : Prop :=
  s.transit.waiting = [] ∧ s.slotFree = true ∧ (s.reportWaits = false ∨ s.transit.turn = .report)

/-- A write of the policy master into the block at an offset of the policy region is forwarded and handed to the Policy Loader
(R47, R49). -/
def PolicyOpen (s : State) (offset : Nat) : Prop :=
  s.transit.policyMaster ≠ 7 ∧ s.transit.policyBase + 2048 ≤ 2 ^ 40 ∧ s.transit.policyBase % 64 = 0
    ∧ s.transit.classify (blockOf (s.transit.policyBase + offset)) = .policy

/-- The window index a block's class names, 24 for POLICY and 25 for REPORT; no other index where it is NONE (R46). -/
def IndexNamed : BlockClass → Option Nat → Option Nat → Prop
  | .descriptor c, index, _ => index = some c.val
  | .policy, index, _ => index = some 24
  | .report, index, _ => index = some 25
  | .none, index, otherwise => index = otherwise

/-- A request touches a block of a class: its first block, or the next one where it crosses (R45, R46). -/
def TouchesClass (r : Request) (t : TransitPath) (k : BlockClass) : Prop :=
  t.classify (blockOf r.address.toNat) = k
    ∨ (64 < r.address.toNat % 64 + 8 * r.count ∧ t.classify (blockOf r.address.toNat + 64) = k)

/-- A tick at which the takings come as one: no application comes before a block's taking of the tick, and no heartbeat lapse
that the tick brings about is taken before the Carrier Controller's (R34, R75, R113). -/
def PlainTick (s : State) (order : TickOrder) : Prop :=
  ((s.loader.applied.isSome = true ∧ s.closesWindow = false) ∨ (order.slotsLate = false ∧ order.arbiterLate = false))
    ∧ (order.lapseFirst = false ∨ ∀ n, s.loader.heartbeatTimer = some n → n + 1 < s.globals.heartbeatCode * 4096)

/-- The slot that an external tick begins (R28, R29, R33). -/
def State.slotBegun (s : State) (mark : Bool) : Slot := if mark then 0 else s.timer.slot + 1

/-- An external tick is a slip (R33). -/
def State.slips (s : State) (mark : Bool) : Bool := s.timer.state == .locked && mark && s.timer.slot != 4095

/-- The held list of a carrier when a locked external tick retires from it: flushed at a slip (R33). -/
def State.listAtTick (s : State) (mark : Bool) (c : Carrier) : List Held := if s.slips mark then [] else s.held c

/-- The record of a carrier after a tick taken by the Carrier Controller with the slot retired at it, if any: the counters of
its state advance and nothing else changes (R6 to R9, R98, R99, R106, R107, R128). -/
def RecordTicked (r : CarrierRecord) (slot : Option SlotUse) (r' : CarrierRecord) : Prop :=
  match r.state with
  | .on => r' = { r with minOnCount := if r.minOnCount < 65535 then r.minOnCount + 1 else r.minOnCount }
  | .draining =>
    r' = { r with
      drainElapsed := if r.drainElapsed < 65535 then r.drainElapsed + 1 else r.drainElapsed
      emptyRun := slot.elim r.emptyRun (fun u =>
        if u.rb ≠ 0 then 0 else if r.emptyRun < 255 then r.emptyRun + 1 else r.emptyRun) }
  | .light =>
    r' = { r with
      lightCount := if r.lightCount < 65535 then r.lightCount + 1 else r.lightCount
      keyed := slot.elim r.keyed (fun u => decide (u.rb ≠ 0) || u.beacon)
      beaconCount := slot.elim r.beaconCount (fun u => if u.beacon = true then 0 else r.beaconCount + 1) }
  | .deep | .queued => r' = { r with sleepCount := r.sleepCount.map (fun n => if n < 65535 then n + 1 else n) }
  | .warming => r' = { r with warmupElapsed := r.warmupElapsed + 1 }
  | .absent | .faulted => r' = r

/-- The figures of a carrier after a retired slot that carries a state and an RB (R80). -/
def SlotMeasured (f : Figures) (state : CarrierState) (rb : Nat) (f' : Figures) : Prop :=
  match state with
  | .on | .draining => f' = { f with windowSum := f.windowSum + rb, measured := f.measured + 1 }
  | .light => f' = { f with windowSum := f.windowSum + rb, measured := f.measured + 1, lightSlots := f.lightSlots + 1 }
  | .deep | .queued => f' = { f with offSlots := f.offSlots + 1 }
  | .absent | .warming | .faulted => f' = f

/-- An event of the kinds that a tick itself brings about. -/
def Due.ofTick : Due → Bool
  | .clockSecond | .heartbeatLapse | .spacingExpiry | .drainConfirmed _ _ | .drainDeadline _ | .beaconStarved _
  | .readyNotice _ | .warmupExpiry _ | .generation | .boundary _ _ _ => true
  | .verdicts _ _ | .grant _ | .demand _ _ | .failSafe _ | .tickLoss => false

/-- What a tick brings about, given the slot each carrier retires at it, whether it is locked, whether it leaves the window's
clean flag, and the events kept over it: a clock second (R38), a heartbeat lapse (R147), a spacing expiry (R124), the end of a
drain, by confirmation before the deadline (R100), beacon starvation (R107), a ready notice (R121), a warm-up's expiry (R128),
the Policy Loader's look for a generation (R140) and the boundary of a window that it closes (R35, R36, R37); and nothing
else. -/
def TickBrings (s t : State) (slot : Carrier → Option SlotUse) (locked clean : Bool) (kept : List Due) : Prop :=
  (.clockSecond ∈ t.due ↔ s.timer.clockSet = true ∧ s.slotsPerSecond ≤ s.timer.subSecond + 1)
    ∧ (.heartbeatLapse ∈ t.due ↔ ∃ n, s.loader.heartbeatTimer = some n ∧ s.globals.heartbeatCode * 4096 ≤ n + 1)
    ∧ (.spacingExpiry ∈ t.due ↔ s.arbiter.spacing = 1)
    ∧ (∀ (c : Carrier) (beacon : Bool), .drainConfirmed c beacon ∈ t.due ↔ (s.carrier c).state = .draining
        ∧ s.globals.drainConfirm ≤ (t.carrier c).emptyRun ∧ ∃ u, slot c = some u ∧ u.beacon = beacon)
    ∧ (∀ c : Carrier, .drainDeadline c ∈ t.due ↔ (s.carrier c).state = .draining
        ∧ s.globals.drainLimit ≤ (t.carrier c).drainElapsed
        ∧ (slot c = none ∨ (t.carrier c).emptyRun < s.globals.drainConfirm))
    ∧ (∀ c : Carrier, .beaconStarved c ∈ t.due ↔ (s.carrier c).state = .light ∧ slot c ≠ none
        ∧ s.globals.beaconDeadline ≤ (t.carrier c).beaconCount)
    ∧ (∀ c : Carrier, .readyNotice c ∈ t.due ↔ (s.carrier c).state = .queued
        ∧ ∃ n, (s.carrier c).sleepCount = some n ∧ n < 65535 ∧ (s.carrier c).values.minSleep = n + 1)
    ∧ (∀ c : Carrier, .warmupExpiry c ∈ t.due ↔ (s.carrier c).state = .warming
        ∧ (s.carrier c).values.warmupTimeout ≤ (s.carrier c).warmupElapsed + 1)
    ∧ (.generation ∈ t.due ↔ s.loader.applied = none ∨ s.closesWindow = true)
    ∧ (∀ (w : Word32) (c l : Bool), .boundary w c l ∈ t.due ↔ s.closesWindow = true
        ∧ w = s.timer.windowNumber ∧ c = (s.timer.clean && clean) ∧ l = locked)
    ∧ ∀ d : Due, d.ofTick = false → (d ∈ t.due ↔ d ∈ kept)

/-- The counters of the blocks other than the Carrier Controller after a tick: the spacing timer (R124), a running heartbeat
timer (R147), the sub-second count of a set clock (R38), and the window count and clean flag where the tick closes no window
(R35, R36). -/
def CountersTicked (s t : State) (clean : Bool) : Prop :=
  t.arbiter = { s.arbiter with spacing := s.arbiter.spacing - 1 }
    ∧ t.loader = { s.loader with heartbeatTimer := s.loader.heartbeatTimer.map (fun n => n + 1) }
    ∧ t.timer.subSecond = (if s.timer.clockSet = true then s.timer.subSecond + 1 else s.timer.subSecond)
    ∧ t.timer.seconds = s.timer.seconds ∧ t.timer.clockSet = s.timer.clockSet ∧ t.timer.nightHold = s.timer.nightHold
    ∧ (s.loader.applied.isSome = true → s.closesWindow = false →
        t.timer.windowTicks = s.timer.windowTicks + 1 ∧ t.timer.windowNumber = s.timer.windowNumber
        ∧ t.timer.clean = (s.timer.clean && clean))
    ∧ (s.loader.applied = none → t.timer.windowTicks = s.timer.windowTicks ∧ t.timer.windowNumber = s.timer.windowNumber)

/-- An unlocked tick: no slot is retired or measured, every counter advances, and the window in progress is unclean (R28, R32,
R34, R36). The events of other kinds outstanding after it are those kept. -/
def UnlockedTick (s t : State) (kept : List Due) : Prop :=
  (∀ c : Carrier, RecordTicked (s.carrier c) none (t.carrier c))
    ∧ t.timer.slot = s.timer.slot + 1 ∧ CountersTicked s t false ∧ TickBrings s t (fun _ => none) false false kept
    ∧ OnlyChanges s t [.controller, .timer, .arbiter, .loader, .due]

/-- A boundary handed on at a tick: the next window begun, the number and clean flag of the window that ends handed with
whether the tick is locked, and the look for a staged generation, outstanding or made within the tick (R35, R36, R37, R140). -/
def BoundaryHanded (s t : State) (order : TickOrder) (locked slip : Bool) : Prop :=
  t.timer.windowNumber = s.timer.windowNumber + 1 ∧ t.timer.windowTicks = 0 ∧ t.timer.clean = true
    ∧ .boundary s.timer.windowNumber (s.timer.clean && locked && !slip) locked ∈ t.due
    ∧ (order.slotsLate = false → order.arbiterLate = false → .generation ∈ t.due)
    ∧ (order.slotsLate = true ∨ order.arbiterLate = true → t.loader.staged = false)

/-- The conditions of a drain candidate of a sector, after the verdicts `vs`, but for those of the sector itself (R95). A
backoff read as 1 is 0 after step 2 (R89). -/
def DrainCandidate (p : WindowParams) (s : State) (vs : List Verdict) (k : Nat) (c : Carrier) : Prop :=
  evalCapacity p s c = true ∧ (p.entries.get c).sector = k ∧ (s.carrier c).state = .on ∧ (∀ v ∈ vs, v.carrier ≠ c)
    ∧ (p.entries.get c).sleepEnable = true ∧ s.keepAwake c = false ∧ (p.entries.get c).minOn ≤ (s.carrier c).minOnCount
    ∧ (s.carrier c).backoff ≤ 1 ∧ (s.figures c).load ≤ 16 * (p.entries.get c).tSleep

/-- The lowest-numbered capacity carrier of a sector that is read in a state (R91). -/
def LowestInState (p : WindowParams) (s : State) (k : Nat) (state : CarrierState) (c : Carrier) : Prop :=
  evalCapacity p s c = true ∧ (p.entries.get c).sector = k ∧ (s.carrier c).state = state
    ∧ ∀ d : Carrier, evalCapacity p s d = true → (p.entries.get d).sector = k → (s.carrier d).state = state → c ≤ d

/-- The verdicts that steps 4 to 7 issue in the night, each with its conditions (R91, R92, R93, R94, R95). -/
def VerdictDue (p : WindowParams) (s : State) (clean : Bool) (v : Verdict) : Prop :=
  evalCapacity p s v.carrier = true
    ∧ match v.kind, v.cause, v.cls with
      | .cancelDrain, .anchorOverload, .load =>
        (p.entries.get v.carrier).sector < 6 ∧ overloaded p s (p.entries.get v.carrier).sector = true
          ∧ (s.carrier v.carrier).state = .draining
      | .wakeLight, .anchorOverload, .load =>
        (p.entries.get v.carrier).sector < 6 ∧ overloaded p s (p.entries.get v.carrier).sector = true
          ∧ LowestInState p s (p.entries.get v.carrier).sector .light v.carrier
      | .wakeDeep, .anchorOverload, .load =>
        (p.entries.get v.carrier).sector < 6 ∧ overloaded p s (p.entries.get v.carrier).sector = true
          ∧ LowestInState p s (p.entries.get v.carrier).sector .deep v.carrier
          ∧ ∀ d : Carrier, evalCapacity p s d = true → (p.entries.get d).sector = (p.entries.get v.carrier).sector →
            (s.carrier d).state ≠ .light
      | .wakeLight, .loadHigh, .load =>
        (s.carrier v.carrier).state = .light ∧ 16 * (p.entries.get v.carrier).tWake ≤ (s.figures v.carrier).load
          ∧ ¬((p.entries.get v.carrier).sector < 6 ∧ overloaded p s (p.entries.get v.carrier).sector = true
            ∧ LowestInState p s (p.entries.get v.carrier).sector .light v.carrier)
      | .deepen, .deepen, .routine =>
        clean = true ∧ (s.carrier v.carrier).state = .light ∧ overloaded p s (p.entries.get v.carrier).sector = false
          ∧ (p.entries.get v.carrier).deepEnable = true ∧ (p.entries.get v.carrier).lightDwell ≤ (s.carrier v.carrier).lightCount
          ∧ (s.figures v.carrier).load ≤ 16 * (p.entries.get v.carrier).tDeep
          ∧ (s.figures v.carrier).load < 16 * (p.entries.get v.carrier).tWake ∧ s.keepAwake v.carrier = false
          ∧ ∃ a, anchorInOn p s (p.entries.get v.carrier).sector = some a
      | .drain, .lowLoad, .routine =>
        clean = true ∧ (p.entries.get v.carrier).sector < 6 ∧ v ∈ drainSector p s [] (p.entries.get v.carrier).sector
      | _, _, _ => False

/-- The place of a verdict among those of one boundary in the night: by step, in steps 4 and 7 by sector, in step 4 the wake
after the cancelled drains, and by carrier (R88, R91, R92, R94, R95). -/
def rankOfVerdict (p : WindowParams) (v : Verdict) : Nat :=
  let sector := (p.entries.get v.carrier).sector
  match v.cause, v.kind with
  | .anchorOverload, .cancelDrain => 100 * sector + v.carrier.val
  | .anchorOverload, _ => 100 * sector + 50
  | .loadHigh, _ => 1000 + v.carrier.val
  | .deepen, _ => 2000 + v.carrier.val
  | _, _ => 3000 + 100 * sector + v.carrier.val

/-- The record of a carrier after a wake cause with the class given: DRAINING and LIGHT go to ON, DEEP is queued, QUEUED has its
class raised where the cause's ranks above it, and every other state is left (R16, R19, R20, R23). -/
def CarrierRecord.woken (r : CarrierRecord) (cls : WakeClass) : CarrierRecord :=
  match r.state with
  | .draining | .light => { r with state := .on, minOnCount := 0 }
  | .deep => { r with state := .queued, queuedClass := some cls }
  | .queued => { r with queuedClass := r.queuedClass.map (fun old => if cls.rank < old.rank then cls else old) }
  | .absent | .on | .warming | .faulted => r

/-- The wake queue is in the order of R118: each entry stands ahead of all behind it, no two share an ordinal, and none is
above the enqueue ordinal. -/
def QueueOrder (a : WarmupArbiter) : Prop :=
  a.queue.Pairwise (fun e f => e.ahead f = true) ∧ (a.queue.map WakeEntry.ordinal).Nodup ∧ ∀ e ∈ a.queue, e.ordinal ≤ a.ordinal

/-- The carriers whose grants have been made and not yet taken (R116). -/
def grantsOutstanding (l : List Due) : List Carrier :=
  l.filterMap (fun d => match d with
    | .grant c => some c
    | _ => none)

/-- The law of the wake queue (R116, R118): the queue is in order; the carriers in it and those with a grant outstanding are
exactly the carriers in QUEUED, each once; an entry has the class of its carrier's record; and exactly the carriers in QUEUED
have a queued class (R1). -/
def WakeLaw (s : State) : Prop :=
  QueueOrder s.arbiter
    ∧ (s.arbiter.queue.map WakeEntry.carrier ++ grantsOutstanding s.due).Nodup
    ∧ (∀ c : Carrier, (s.carrier c).state = .queued
        ↔ c ∈ s.arbiter.queue.map WakeEntry.carrier ++ grantsOutstanding s.due)
    ∧ (∀ e ∈ s.arbiter.queue, (s.carrier e.carrier).queuedClass = some e.cls)
    ∧ ∀ c : Carrier, (s.carrier c).queuedClass.isSome = true ↔ (s.carrier c).state = .queued

/-- The STATE record that a wake cause makes of a carrier, by the state it is found in: none where it finds nothing to do
(R10, R16, R19, R20, R23). -/
def CarrierRecord.wakeBody (r : CarrierRecord) (c : Carrier) (cause : Cause) (cls : WakeClass) : Option RecordBody :=
  match r.state with
  | .draining | .light => some (.stateChange c r.state .on cause none)
  | .deep => some (.stateChange c .deep .queued cause (some cls))
  | .queued =>
    match r.queuedClass with
    | some old => if cls.rank < old.rank then some (.stateChange c .queued .queued cause (some cls)) else none
    | none => none
  | .absent | .on | .warming | .faulted => none

/-- The STATE records of a wake of the carriers picked, in ascending carrier number (R11). -/
def wakeBodies (s : State) (which : Carrier → Bool) (cause : Cause) (cls : WakeClass) : List RecordBody :=
  (carriers.filter which).filterMap (fun c => (s.carrier c).wakeBody c cause cls)

/-- The carriers picked that are in DEEP, for each of which a wake makes a wake-queue entry, in ascending number (R11). -/
def deepOf (s : State) (which : Carrier → Bool) : List Carrier :=
  carriers.filter (fun c => which c && (s.carrier c).state == .deep)

/-- The Report Unit after records handed to it one after the other, with the header of a state (R152). -/
def ReportUnit.handAll (u : ReportUnit) (s : State) (bodies : List RecordBody) : ReportUnit :=
  bodies.foldl (fun v b => v.hand (s.makeRecord s.timer.windowNumber b)) u

/-- What the Warm-up Arbiter has done with the entries made for the carriers `made`, in that order: they have the next ordinals,
and each of them and of the older entries waits in the queue or has been granted; a grant charges the carrier's weight, sets the
spacing timer and is outstanding after the events `before` and ahead of those `after`; and none is made while the spacing timer
runs (R117, R119, R122, R123). -/
def EntriesTaken (s t : State) (before after : List Due) (made : List Carrier) : Prop :=
  t.arbiter.ordinal = s.arbiter.ordinal + made.length
    ∧ ∃ granted : List WakeEntry,
      t.due = before ++ granted.map (fun g => .grant g.carrier) ++ after
      ∧ t.arbiter.charged = s.arbiter.charged ++ granted.map (fun g => (g.carrier, (t.carrier g.carrier).values.weight))
      ∧ t.arbiter.spacing = (if granted = [] then s.arbiter.spacing else t.globals.spacing)
      ∧ (s.arbiter.spacing ≠ 0 → granted = [])
      ∧ (granted ++ t.arbiter.queue).length = s.arbiter.queue.length + made.length
      ∧ (∀ (i : Nat) (c : Carrier), made[i]? = some c →
          ∃ f ∈ granted ++ t.arbiter.queue, f.carrier = c ∧ f.ordinal = s.arbiter.ordinal + (i + 1))
      ∧ (∀ e ∈ s.arbiter.queue, ∃ f ∈ granted ++ t.arbiter.queue, f.carrier = e.carrier ∧ f.ordinal = e.ordinal)
      ∧ (WakeLaw s → ∀ f ∈ t.arbiter.queue, (t.carrier f.carrier).queuedClass = some f.cls)
      ∧ (made ≠ [] → ∀ e, t.candidate = some e → t.grantable e = false)

/-- A carrier is in one of the three sleep states (R3). -/
def CarrierState.sleeping : CarrierState → Bool
  | .draining | .light | .deep => true
  | .absent | .on | .queued | .warming | .faulted => false

/-- A value brought into a range: it lies there, a value that did is kept, and one beyond a bound becomes that bound (R144). -/
def Clamped (low high before after : Nat) : Prop :=
  low ≤ after ∧ after ≤ high ∧ (low ≤ before → before ≤ high → after = before) ∧ (before < low → after = low)
    ∧ (high < before → after = high)

/-- The beats of the status block for the carriers given: state and class of `s`, figures of `t` (R156, R162). -/
def statusBeats (s t : State) (l : List Carrier) : List BeatData :=
  l.map (fun c => encodeEntry (s.carrier c).state (s.carrier c).queuedClass (t.figures c))

/-- What the live words have done after a write that is merged in `t`, each where the write touches it: the heartbeat word, the
consumer index, the clock-set word and the keep-awake mask, in this order (R23, R39, R138, R139, R147, R154). `address` is that
of the write's first beat. -/
def LiveWordsActed (s t : State) (heartbeat consumer clock keepAwake : Bool) (address : Address) : Prop :=
  (heartbeat = true ∧ s.loader.applied.isSome = true ∧ s.globals.heartbeatCode ≠ 0 →
      t.loader = { s.loader with mirror := t.loader.mirror, heartbeat := .alive, heartbeatTimer := some 0 })
    ∧ (heartbeat = false ∨ s.loader.applied = none ∨ s.globals.heartbeatCode = 0 →
      t.loader = { s.loader with mirror := t.loader.mirror })
    ∧ t.report.consumer = (match s.loader.applied with
        | some p => if consumer = true ∧ (s.report.producer - mirrorConsumer t.loader.mirror).toNat ≤ p.globals.ringCapacity
            then mirrorConsumer t.loader.mirror else s.report.consumer
        | none => s.report.consumer)
    ∧ t.report.producer = s.report.producer ∧ t.report.ring = s.report.ring
    ∧ t.report.inFlightRecords = s.report.inFlightRecords ∧ t.report.updateOwed = s.report.updateOwed
    ∧ t.timer = (if clock = false then s.timer
        else if mirrorClockSet t.loader.mirror ≤ 86399 then
          { s.timer with seconds := mirrorClockSet t.loader.mirror, clockSet := true, subSecond := 0 }
        else if mirrorClockSet t.loader.mirror = 0xFFFFFFFF then { s.timer with seconds := 0, clockSet := false, subSecond := 0 }
        else s.timer)
    ∧ (let fault (k : FaultKind) : BusFault :=
          { kinds := [k], master := s.transit.policyMaster, kind := .write, address := address, window := some 24 }
        let beyond := consumer = true ∧ ∃ p, s.loader.applied = some p
          ∧ p.globals.ringCapacity < (s.report.producer - mirrorConsumer t.loader.mirror).toNat
        let outOfRange := clock = true ∧ 86399 < mirrorClockSet t.loader.mirror ∧ mirrorClockSet t.loader.mirror ≠ 0xFFFFFFFF
        (¬beyond → ¬outOfRange → t.report.latch = s.report.latch)
        ∧ (beyond → ¬outOfRange → t.report.latch = some { fault := fault .consumerRange, more := s.report.latch.isSome })
        ∧ (¬beyond → outOfRange → t.report.latch = some { fault := fault .clockRange, more := s.report.latch.isSome })
        ∧ (beyond → outOfRange → t.report.latch = some { fault := fault .clockRange, more := true }))
    ∧ (∀ c : Carrier, t.carrier c =
        if keepAwake = true ∧ s.isCapacity c = true ∧ s.keepAwake c = false ∧ t.keepAwake c = true
        then (s.carrier c).woken .routine else s.carrier c)
    ∧ ∃ u later,
        u = (if heartbeat = true ∧ s.loader.applied.isSome = true ∧ s.globals.heartbeatCode ≠ 0 ∧ s.loader.heartbeat = .lapsed
          then s.report.hand (s.makeRecord s.timer.windowNumber (.heartbeat .alive)) else s.report)
        ∧ t.report.pending = u.pending ++ later
        ∧ (keepAwake = false → later = [] ∧ t.report.gap = u.gap)
        ∧ ∀ w ∈ later, ∃ gap rec c left entered cls, w = .ringRecord gap rec ∧ rec.seconds = t.timer.seconds
            ∧ rec.body = .stateChange c left entered .keepAwake cls

/-! ### The reasons of refusal -/

/-- An index has a property, and no lower one has it (R141). -/
def Lowest (holds : Nat → Prop) (i : Nat) : Prop := holds i ∧ ∀ j, j < i → ¬holds j

/-- A policy has a window of an index, at a base and with a size code: the descriptor window of a present carrier, or the report
window (R46, R141). -/
def HasWindow (p : Policy) (i base code : Nat) : Prop :=
  (∃ c : Carrier, c.val = i ∧ (p.entries.get c).present = true ∧ base = (p.entries.get c).windowBase
      ∧ code = (p.entries.get c).windowSizeCode)
    ∨ (i = 25 ∧ base = p.globals.reportBase ∧ code = p.globals.reportSizeCode)

/-- An address is a byte of the window of an index (R46). -/
def InWindow (p : Policy) (i address : Nat) : Prop :=
  ∃ base code, HasWindow p i base code ∧ base ≤ address ∧ address < base + 4096 * 2 ^ code

/-- The window of index `x` shares a byte with the policy region, where `y` is 24, or with the lower-indexed window `y` (R141). -/
def SharesByte (s : State) (p : Policy) (x y : Nat) : Prop :=
  ∃ address, InWindow p x address
    ∧ ((y = 24 ∧ s.transit.policyBase ≤ address ∧ address < s.transit.policyBase + 2048)
      ∨ (y ≠ 24 ∧ y < x ∧ InWindow p y address))

/-- The pair of windows `x` and `y` is taken before the pair `v` and `w`: by ascending `x`, and for one `x` the policy region
first and then by ascending `y` (R141). -/
def PairBefore (x y v w : Nat) : Prop := x < v ∨ (x = v ∧ w ≠ 24 ∧ (y = 24 ∨ y < w))

/-- A present anchor of a sector (R141). -/
def AnchorIn (p : Policy) (sector : Nat) (a : Carrier) : Prop :=
  (p.entries.get a).present = true ∧ (p.entries.get a).sector = sector ∧ (p.entries.get a).role = .anchor

/-- A structural value of the mirror differs from the applied one, RBmax compared after clamping (R142). -/
def StructureDiffers (applied mirror : CarrierValues) : Prop :=
  applied.present ≠ mirror.present ∨ applied.role ≠ mirror.role ∨ applied.sector ≠ mirror.sector
    ∨ applied.rbMax ≠ max 24 (min 275 mirror.rbMax) ∨ applied.windowBase ≠ mirror.windowBase
    ∨ applied.windowSizeCode ≠ mirror.windowSizeCode ∨ applied.supplyHigh ≠ mirror.supplyHigh
    ∨ applied.keyHigh ≠ mirror.keyHigh ∨ applied.sensing ≠ mirror.sensing

/-- A carrier is in DRAINING, LIGHT, DEEP, QUEUED or WARMING (R142). -/
def IsBusy (s : State) (c : Carrier) : Prop :=
  (s.carrier c).state = .draining ∨ (s.carrier c).state = .light ∨ (s.carrier c).state = .deep
    ∨ (s.carrier c).state = .queued ∨ (s.carrier c).state = .warming

/-- A carrier is a member of a sector by the carrier table (R142). -/
def MemberNow (s : State) (sector : Nat) (c : Carrier) : Prop :=
  (s.carrier c).values.present = true ∧ (s.carrier c).values.sector = sector

/-- A carrier is a member of a sector by a policy (R142). -/
def MemberThen (p : Policy) (sector : Nat) (c : Carrier) : Prop :=
  (p.entries.get c).present = true ∧ (p.entries.get c).sector = sector

/-- A reason refuses a policy, with the index it reports (R141, R142). -/
def Refuses (s : State) (p : Policy) (i : Nat) : RefusalReason → Prop
  | .masterClash => i = p.globals.scheduler.toNat
      ∧ (p.globals.scheduler = p.globals.fronthaul ∨ p.globals.scheduler = 7 ∨ p.globals.fronthaul = 7)
  | .sectorRange => Lowest (fun n => ∃ c : Carrier, c.val = n ∧ (p.entries.get c).present = true ∧ 5 < (p.entries.get c).sector) i
  | .anchorCount => Lowest (fun n => n < 6 ∧ (∃ c : Carrier, MemberThen p n c)
      ∧ ¬∃ a, AnchorIn p n a ∧ ∀ b, AnchorIn p n b → b = a) i
  | .windowShape => Lowest (fun n => ∃ base code, HasWindow p n base code ∧ (16 < code ∨ base % (4096 * 2 ^ code) ≠ 0)) i
  | .windowOverlap => ∃ x y, SharesByte s p x y ∧ i = min x y ∧ ∀ v w, SharesByte s p v w → ¬PairBefore v w x y
  | .ringShape => i = 25 ∧ (p.globals.ringCapacity ∉ [16, 32, 64, 128, 256, 512, 1024]
      ∨ 4096 * 2 ^ p.globals.reportSizeCode < 256 + 32 * p.globals.ringCapacity)
  | .busyCarrier => Lowest (fun n => ∃ c : Carrier, c.val = n ∧ IsBusy s c
      ∧ StructureDiffers (s.carrier c).values (p.entries.get c)) i
  | .busySector => Lowest (fun n => n < 6 ∧ (∃ c : Carrier, MemberNow s n c ∧ IsBusy s c)
      ∧ ∃ d : Carrier, ¬(MemberNow s n d ↔ MemberThen p n d)
        ∨ ¬((MemberNow s n d ∧ (s.carrier d).values.role = .anchor) ↔ AnchorIn p n d)) i

/-- The place of a reason in the order of the checks (R141). -/
def RefusalReason.order : RefusalReason → Nat
  | .masterClash => 1
  | .sectorRange => 2
  | .anchorCount => 3
  | .windowShape => 4
  | .windowOverlap => 5
  | .ringShape => 6
  | .busyCarrier => 7
  | .busySector => 8

/-! ### A generation applied, block by block -/

/-- The Transit Path: the policy region as it was, the report window, and one descriptor window for each present carrier, each
once; and the two masters (R46, R57). -/
def WindowsApplied (s t : State) (p : Policy) : Prop :=
  (∀ w : Window, w ∈ t.transit.windows ↔
      w = { index := 24, base := s.transit.policyBase, size := 2048 }
      ∨ w = { index := 25, base := p.globals.reportBase, size := 4096 * 2 ^ p.globals.reportSizeCode }
      ∨ ∃ c : Carrier, (p.entries.get c).present = true
        ∧ w = { index := c.val, base := (p.entries.get c).windowBase, size := 4096 * 2 ^ (p.entries.get c).windowSizeCode })
    ∧ (t.transit.windows.map Window.index).Nodup

/-- The Report Unit: the ring of the policy. Where the ring is absent or its window or capacity changes it is re-shaped: both
indices at the mirror's consumer index, no producer update owed, every record in flight void, and the POLICY_APPLIED record
first in an emptied queue, with GAP where a record was discarded or voided; else the indices and the queue are kept and the
record handed (R145, R146, R150, R155). -/
def RingApplied (s t : State) (p : Policy) : Prop :=
  t.report.ring = some (ringOf p) ∧ t.report.latch = s.report.latch
    ∧ ∃ applied : Record,
      applied = { window := if s.loader.applied = none then 1 else s.timer.windowNumber, seconds := s.timer.seconds
                  slot := s.timer.slot
                  body := .policyApplied (mirrorGeneration s.loader.mirror) (clampedNames (readPolicy s.loader.mirror) p) }
      ∧ (s.report.ring ≠ some (ringOf p) →
          t.report.producer = mirrorConsumer s.loader.mirror ∧ t.report.consumer = mirrorConsumer s.loader.mirror
          ∧ t.report.updateOwed = false ∧ t.report.inFlightRecords = s.report.inFlightRecords.map (fun _ => false)
          ∧ ∃ later, t.report.pending = .ringRecord
              (s.report.gap || s.report.pending.any ReportWrite.isRecord || s.report.inFlightRecords.any id) applied :: later)
      ∧ (s.report.ring = some (ringOf p) →
          t.report.producer = s.report.producer ∧ t.report.consumer = s.report.consumer
          ∧ t.report.updateOwed = s.report.updateOwed ∧ t.report.inFlightRecords = s.report.inFlightRecords
          ∧ ∃ later, t.report.pending = (s.report.hand applied).pending ++ later)

/-- The Descriptor Monitor: the list of a carrier that is not present, becomes present or changes its window is emptied, and
every other has its RBs brought to the new RBmax (R72). -/
def HeldApplied (s t : State) (p : Policy) : Prop :=
  ∀ c : Carrier,
    ((p.entries.get c).present = false ∨ (s.carrier c).values.present = false
      ∨ (p.entries.get c).windowBase ≠ (s.carrier c).values.windowBase
      ∨ (p.entries.get c).windowSizeCode ≠ (s.carrier c).values.windowSizeCode → t.held c = [])
    ∧ ((p.entries.get c).present = true → (s.carrier c).values.present = true →
      (p.entries.get c).windowBase = (s.carrier c).values.windowBase →
      (p.entries.get c).windowSizeCode = (s.carrier c).values.windowSizeCode →
      t.held c = (s.held c).map (fun h => { h with rb := min h.rb (p.entries.get c).rbMax }))

/-- The window parameters: installed at once at the first application and where the procedure of the window that ends has been
run, else kept back, with the night values in force (R40, R87). -/
def ParametersApplied (s t : State) (p : Policy) : Prop :=
  t.evaluator.lastEvaluated = s.evaluator.lastEvaluated
    ∧ (s.loader.applied = none ∨ s.evaluator.lastEvaluated = s.timer.windowNumber - 1 →
        t.evaluator.params = some { w := p.globals.w, k := p.globals.k, entries := p.entries }
        ∧ t.evaluator.pendingParams = none ∧ t.timer.nightHold = s.timer.nightHold)
    ∧ (s.loader.applied.isSome = true → s.evaluator.lastEvaluated ≠ s.timer.windowNumber - 1 →
        t.evaluator.params = s.evaluator.params
        ∧ t.evaluator.pendingParams = some { w := p.globals.w, k := p.globals.k, entries := p.entries }
        ∧ (s.timer.nightHold = none → t.timer.nightHold = some
            { nightStart := s.globals.nightStart, nightEnd := s.globals.nightEnd, heartbeat := s.loader.heartbeat })
        ∧ (s.timer.nightHold ≠ none → t.timer.nightHold = s.timer.nightHold))

/-- Ready sensing is turned on for a carrier in ON whose ready line is low (R14), as a test. -/
def newlyLost (s : State) (p : Policy) (c : Carrier) : Bool :=
  (s.carrier c).state == .on && (p.entries.get c).present && !(s.carrier c).values.sensing && (p.entries.get c).sensing
    && !s.readyLevel c

/-- Ready sensing is turned on for a carrier in ON whose ready line is low (R14). -/
def NewlyLost (s : State) (p : Policy) (c : Carrier) : Prop := newlyLost s p c = true

/-- A carrier is an anchor newly lost, whose sector is woken (R14, R16). -/
def anchorLost (s : State) (p : Policy) (a : Carrier) : Bool := newlyLost s p a && (p.entries.get a).role == .anchor

/-- A carrier is a present capacity carrier of the sector of another (R16). -/
def capacityBeside (p : Policy) (a c : Carrier) : Bool :=
  (p.entries.get c).present && (p.entries.get c).role == .capacity && (p.entries.get c).sector == (p.entries.get a).sector

/-- A carrier is queued by the application itself: it becomes present with its sensed ready line low (R12), or stays present and
is in FAULTED (R15). -/
def policyQueued (s : State) (p : Policy) (c : Carrier) : Bool :=
  (p.entries.get c).present && ((s.carrier c).state == .faulted
    || ((s.carrier c).state == .absent && (p.entries.get c).sensing && !s.readyLevel c))

/-- The STATE record of a carrier in the cascade of a lost anchor at an application: one that the application has queued already
is raised, one that it takes later is not, and every other is woken as it stands (R11, R16, R19). -/
def cascadeBody (s : State) (p : Policy) (a c : Carrier) : Option RecordBody :=
  if policyQueued s p c then
    if c < a then some (.stateChange c .queued .queued .anchorLost (some .urgent)) else none
  else (s.carrier c).wakeBody c .anchorLost .urgent

/-- The STATE records of an application at one carrier, the cascade of a lost anchor with it (R11 to R16). -/
def applicationBodies (s : State) (p : Policy) (c : Carrier) : List RecordBody :=
  let r := s.carrier c
  if policyQueued s p c then [.stateChange c r.state .queued .policy (some .routine)]
  else if r.state = .absent ∧ (p.entries.get c).present = true then [.stateChange c .absent .on .policy none]
  else if (r.state = .on ∨ r.state = .faulted) ∧ (p.entries.get c).present = false then
    [.stateChange c r.state .absent .policy none]
  else if newlyLost s p c = true then
    .stateChange c .on .faulted .readyLost none ::
      (if anchorLost s p c then (carriers.filter (capacityBeside p c)).filterMap (cascadeBody s p c) else [])
  else []

/-- The carriers for which an application makes entries at the place of one carrier: those in DEEP in the sector of a lost
anchor, or the carrier itself where the application queues it (R11). -/
def applicationEntries (s : State) (p : Policy) (c : Carrier) : List Carrier :=
  if anchorLost s p c then deepOf s (capacityBeside p c) else if policyQueued s p c then [c] else []

/-- The records of an application, in the order handed: POLICY_APPLIED, the STATE records of the carriers in ascending order,
and the HEARTBEAT record of a lapse ended by a code of 0; to the ring as the re-shape leaves it (R11, R145, R148, R155). -/
def RecordsApplied (s t : State) (p : Policy) : Prop :=
  t.report =
    (if s.report.ring = some (ringOf p) then s.report
      else
        { s.report with
          ring := some (ringOf p), pending := [], updateOwed := false
          inFlightRecords := s.report.inFlightRecords.map (fun _ => false)
          producer := mirrorConsumer s.loader.mirror, consumer := mirrorConsumer s.loader.mirror
          gap := s.report.gap || s.report.pending.any ReportWrite.isRecord || s.report.inFlightRecords.any id }).handAll t
      (.policyApplied (mirrorGeneration s.loader.mirror) (clampedNames (readPolicy s.loader.mirror) p)
        :: carriers.flatMap (applicationBodies s p)
        ++ (if s.loader.applied.isSome = true ∧ s.globals.heartbeatCode ≠ 0 ∧ p.globals.heartbeatCode = 0
            ∧ s.loader.heartbeat = .lapsed then [.heartbeat .alive] else []))

/-- The Warm-up Arbiter: the entries of the application in the order of its carriers, taken with the new limit, spacing and
weights; the queue, the charged weights and a running spacing timer otherwise kept; and the attempt of the application, after
which no candidate fits (R117, R134). -/
def ArbiterApplied (s t : State) (rest : List Due) (p : Policy) : Prop :=
  EntriesTaken s t rest
      (if s.timer.state ≠ .holdover ∧ slotLengthOf p.globals.slotCode ≠ s.slotLength
        ∧ 2 * slotLengthOf p.globals.slotCode ≤ s.timer.lossTimer then [.tickLoss] else [])
      (carriers.flatMap (applicationEntries s p))
    ∧ t.globals = p.globals
    ∧ ∀ e, t.candidate = some e → t.grantable e = false

/-- The classes of the carriers that wait, and the records of those in no serving or absent state: a carrier that the application
queues has class ROUTINE, or URGENT where the cascade of an anchor of a higher number raises it; one in DRAINING, LIGHT, DEEP,
QUEUED or WARMING is woken with class URGENT where its anchor is lost, and else only takes the new values (R11, R12, R15, R16). -/
def ClassesApplied (s t : State) (p : Policy) : Prop :=
  (∀ c : Carrier, policyQueued s p c = true → (t.carrier c).queuedClass =
      if carriers.any (fun a => anchorLost s p a && capacityBeside p a c && decide (c < a)) then some .urgent else some .routine)
    ∧ ∀ c : Carrier, IsBusy s c → t.carrier c =
      { (if carriers.any (fun a => anchorLost s p a && capacityBeside p a c) then (s.carrier c).woken .urgent else s.carrier c) with
        values := p.entries.get c }

/-- The carriers: values, states and figures (R1, R12 to R16, R79). -/
def CarriersApplied (s t : State) (p : Policy) : Prop :=
  ∀ c : Carrier, (t.carrier c).values = p.entries.get c
    ∧ ((s.carrier c).state = .absent → (p.entries.get c).present = true →
        (t.carrier c).state = (if (p.entries.get c).sensing = true ∧ s.readyLevel c = false then .queued else .on)
        ∧ t.figures c = { windowSum := 0, measured := 0, lastU := 1000, load := 16000, lightSlots := 0, offSlots := 0
                          latchedLight := 0, latchedOff := 0 })
    ∧ ((s.carrier c).state = .absent → (p.entries.get c).present = false → (t.carrier c).state = .absent)
    ∧ ((s.carrier c).state = .faulted → (p.entries.get c).present = true → (t.carrier c).state = .queued)
    ∧ ((s.carrier c).state = .on ∨ (s.carrier c).state = .faulted → (p.entries.get c).present = false →
        (t.carrier c).state = .absent ∧ t.figures c = .zero)
    ∧ (NewlyLost s p c → (t.carrier c).state = .faulted)
    ∧ ((s.carrier c).state = .on → (p.entries.get c).present = true → ¬NewlyLost s p c → (t.carrier c).state = .on)
    ∧ ((s.carrier c).state = .queued ∨ (s.carrier c).state = .warming → (t.carrier c).state = (s.carrier c).state)
    ∧ ((∃ a, NewlyLost s p a ∧ (p.entries.get a).role = .anchor ∧ (p.entries.get a).sector = (p.entries.get c).sector) →
        (p.entries.get c).present = true → (p.entries.get c).role = .capacity → (t.carrier c).state.sleeping = false)
    ∧ ((s.carrier c).state.sleeping = true →
        (∀ a, NewlyLost s p a → (p.entries.get a).role = .anchor → (p.entries.get a).sector ≠ (p.entries.get c).sector) →
        (t.carrier c).state = (s.carrier c).state)
    ∧ ((s.carrier c).state ≠ .absent → (p.entries.get c).present = true → t.figures c = s.figures c)

/-- The Slot Timer: window 1 begins at the first application; in HOLDOVER a new slot length sets the next local tick, and else
tick loss is detected where the loss timer has reached twice the new length; nothing else of it changes but the night values
(R30, R32, R35). -/
def TimerApplied (s t : State) (rest : List Due) (p : Policy) : Prop :=
  (s.loader.applied = none → t.timer.windowNumber = 1 ∧ t.timer.windowTicks = 0 ∧ t.timer.clean = true)
    ∧ (s.loader.applied.isSome = true → t.timer.windowNumber = s.timer.windowNumber
        ∧ t.timer.windowTicks = s.timer.windowTicks ∧ t.timer.clean = s.timer.clean)
    ∧ t.timer.state = s.timer.state ∧ t.timer.slot = s.timer.slot ∧ t.timer.lossTimer = s.timer.lossTimer
    ∧ t.timer.seconds = s.timer.seconds ∧ t.timer.clockSet = s.timer.clockSet ∧ t.timer.subSecond = s.timer.subSecond
    ∧ t.timer.holdover = (if s.timer.state = .holdover ∧ slotLengthOf p.globals.slotCode ≠ s.slotLength
        then some (slotLengthOf p.globals.slotCode) else s.timer.holdover)
    ∧ (.tickLoss ∈ t.due ↔ .tickLoss ∈ rest ∨ (s.timer.state ≠ .holdover ∧ slotLengthOf p.globals.slotCode ≠ s.slotLength
        ∧ 2 * slotLengthOf p.globals.slotCode ≤ s.timer.lossTimer))

/-- The heartbeat: ALIVE at the first application and where its code leaves or enters 0, its timer started by a code above 0,
and a record handed last where a lapse so ends; with a code above 0 before and after, or 0 both times, as it was (R148). -/
def HeartbeatApplied (s t : State) (p : Policy) : Prop :=
  (s.loader.applied = none →
      t.loader.heartbeat = .alive ∧ t.loader.heartbeatTimer = if p.globals.heartbeatCode = 0 then none else some 0)
    ∧ (s.loader.applied.isSome = true → s.globals.heartbeatCode = 0 → p.globals.heartbeatCode ≠ 0 →
        t.loader.heartbeat = .alive ∧ t.loader.heartbeatTimer = some 0)
    ∧ (s.loader.applied.isSome = true → s.globals.heartbeatCode ≠ 0 → p.globals.heartbeatCode = 0 →
        t.loader.heartbeat = .alive ∧ t.loader.heartbeatTimer = none
        ∧ (s.loader.heartbeat = .lapsed → ∃ r : ReportUnit, r.ring = t.report.ring
          ∧ t.report = r.hand (s.makeRecord s.timer.windowNumber (.heartbeat .alive))))
    ∧ (s.loader.applied.isSome = true → (s.globals.heartbeatCode = 0 ↔ p.globals.heartbeatCode = 0) →
        t.loader.heartbeat = s.loader.heartbeat ∧ t.loader.heartbeatTimer = s.loader.heartbeatTimer)

/-! ### A fabric reset -/

/-- A fabric reset lapses the heartbeat: a code in force above 0, and ALIVE (R149). -/
def resetLapses (s : State) : Bool :=
  s.loader.applied.isSome && s.globals.heartbeatCode != 0 && s.loader.heartbeat == .alive

/-- The records that a fabric reset hands, in the order of the takings: the STATE records of the sleepers woken, ascending, the
HEARTBEAT record of a lapse, and the FABRIC_RESET record (R11, R20, R149, R159). Where the Carrier Controller takes its cause
later, its records are not among them. -/
def resetBodies (s : State) (order : ResetOrder) : List RecordBody :=
  let woken := wakeBodies s s.isCapacity .fabricReset .urgent
  let lapse : List RecordBody := if resetLapses s then [.heartbeat .lapsed] else []
  match order with
  | .controllerLoaderReport => woken ++ lapse ++ [.fabricReset]
  | .controllerReportLoader => woken ++ [.fabricReset] ++ lapse
  | .loaderControllerReport => lapse ++ woken ++ [.fabricReset]
  | .reportControllerLoader => [.fabricReset] ++ woken ++ lapse
  | .loaderReportController => lapse ++ [.fabricReset]
  | .reportLoaderController => [.fabricReset] ++ lapse

/-- The causes and entries that a fabric reset hands: the HEARTBEAT_LAPSED cause of a lapse, the grants of the entries made, and
the FABRIC_RESET cause where the Carrier Controller takes it later (R20, R117, R149). -/
def ResetHandsOn (s t : State) (order : ResetOrder) : Prop :=
  let lapse : List Due := if resetLapses s then [.failSafe .heartbeatLapsed] else []
  match order with
  | .controllerLoaderReport | .controllerReportLoader | .reportControllerLoader =>
    EntriesTaken s t s.due lapse (deepOf s s.isCapacity)
  | .loaderControllerReport => EntriesTaken s t (s.due ++ lapse) [] (deepOf s s.isCapacity)
  | .loaderReportController | .reportLoaderController =>
    t.arbiter = s.arbiter ∧ t.due = s.due ++ lapse ++ [.failSafe .fabricReset]

/-- The values of every block after power-on reset that do not depend on the straps (R2, R27, R43, R59, R78, R115, R136,
R150). -/
def ResetValues (t : State) : Prop :=
  (∀ c : Carrier, t.carrier c = .vacant ∧ t.supplyLine c = .released ∧ t.keyLine c = .released ∧ t.held c = []
      ∧ t.figures c = .zero)
    ∧ (t.timer.state = .unsynced ∧ t.timer.slot = 0 ∧ t.timer.lossTimer = 0 ∧ t.timer.holdover = none
      ∧ t.timer.windowTicks = 0 ∧ t.timer.windowNumber = 0 ∧ t.timer.clean = true ∧ t.timer.seconds = 0
      ∧ t.timer.clockSet = false ∧ t.timer.subSecond = 0)
    ∧ (t.transit.windows = [policyWindow t.transit.policyBase] ∧ t.transit.scheduler = none ∧ t.transit.fronthaul = none
      ∧ t.transit.inFlight = [] ∧ t.transit.turn = .report)
    ∧ (t.evaluator.params = none ∧ t.evaluator.lastEvaluated = 0)
    ∧ (t.arbiter.queue = [] ∧ t.arbiter.charged = [] ∧ t.arbiter.budgetInUse = 0 ∧ t.arbiter.spacing = 0
      ∧ t.arbiter.ordinal = 0)
    ∧ ((∀ a : Nat, t.loader.mirror.read a = 0) ∧ t.loader.applied = none ∧ t.loader.lastApplied = 0
      ∧ t.loader.lastRefused = 0 ∧ t.loader.heartbeat = .alive ∧ t.loader.heartbeatTimer = none)
    ∧ t.report.ring = none ∧ t.report.pending = [] ∧ t.report.updateOwed = false ∧ t.report.producer = 0
    ∧ t.report.consumer = 0 ∧ t.report.gap = false ∧ t.report.inFlightRecords = [] ∧ t.report.latch = none
    ∧ t.attention = false

/-! ### The part on its own -/

/-- The command that takes an outstanding event. Of tick loss it is TICK_LOSS with the cause taken first. -/
def commandOf : Due → Instr
  | .clockSecond => .clockSecondAdvance
  | .drainConfirmed c _ => .drainConfirmed c
  | .drainDeadline c => .drainDeadline c
  | .beaconStarved c => .beaconStarved c
  | .heartbeatLapse => .heartbeatLapse
  | .readyNotice c => .readyNotice c
  | .warmupExpiry c => .warmupExpiry c
  | .spacingExpiry => .spacingExpiry
  | .boundary _ _ _ => .windowBoundary
  | .generation => .generationApplication
  | .verdicts _ _ => .verdictList none
  | .grant c => .grant c
  | .demand c _ => .demand c
  | .failSafe cause => .failSafeWake cause
  | .tickLoss => .tickLoss .beforeOutstanding { usualOrder with handedWait := true }

/-- A step on an empty queue with an event outstanding: the first of those taken at once, else the oldest that is not tick
loss, else tick loss; each as its command takes it (notes/assumptions/2.md and 3.md). -/
def TakesOutstanding (s : State) : Prop :=
  (∀ (before after : List Due) (d : Due), s.due = before ++ d :: after →
    (d.atOnce = true ∧ (∀ e ∈ before, e.atOnce = false)
      ∨ Quiet s ∧ d ≠ .tickLoss ∧ (∀ e ∈ before, e = .tickLoss)) →
    step s = exec (commandOf d) s)
  ∧ (s.due = [.tickLoss] → step s = exec (commandOf .tickLoss) { s with due := [] })

/-- A step on an empty queue with no event outstanding: a turn of the downstream slot (R55), else tick loss at twice the slot
length (R30), else the local tick that is due (R32), else one microsecond of local time. -/
def LetsTimePass (s : State) : Prop :=
  (s.arbiterChoice = some .report → step s = exec .reportGrant s)
  ∧ (s.arbiterChoice = some .upstream → step s = exec (.upstreamRequest none) s)
  ∧ (s.arbiterChoice = none → s.timer.state ≠ .holdover →
      (2 * s.slotLength ≤ s.timer.lossTimer → step s = exec (commandOf .tickLoss) s)
      ∧ (s.timer.lossTimer < 2 * s.slotLength →
        step s = .next { s with timer := { s.timer with lossTimer := s.timer.lossTimer + 1 } }))
  ∧ (s.arbiterChoice = none → s.timer.state = .holdover →
      (s.timer.holdover = some 0 → step s = exec (.localTick usualOrder) s)
      ∧ (∀ n, s.timer.holdover = some (n + 1) → step s = .next { s with timer := { s.timer with holdover := some n } })
      ∧ (s.timer.holdover = none → step s = .next s))

/-! ### The layouts of chapter 10 -/

/-- The field of `width` bits from bit `low` of a beat. -/
def bitsAt (d : BeatData) (low width : Nat) : Nat := d.toNat / 2 ^ low % 2 ^ width

/-- The field of `width` bytes at a byte offset of a report write, least significant byte first; no field crosses a beat. -/
def fieldAt (beats : List BeatData) (offset width : Nat) : Nat :=
  bitsAt (beats.getD (offset / 8) 0) (8 * (offset % 8)) (8 * width)

/-- The field of `width` bytes at an offset of the policy region, least significant byte first. -/
def mirrorField (m : Memory) (offset width : Nat) : Nat :=
  ((List.range width).map (fun i => (m.read (offset + i)).toNat * 256 ^ i)).sum

/-- The states of a carrier in the order of their codes, from 0 (R162). -/
def stateCodes : List CarrierState := [.absent, .on, .draining, .light, .deep, .queued, .warming, .faulted]

/-- The wake classes in the order of their codes, from 0 (R162). -/
def classCodes : List WakeClass := [.urgent, .demand, .load, .routine]

/-- The causes in the order of their codes, from 1 (R163). -/
def causeCodes : List Cause :=
  [.policy, .lowLoad, .drainConfirmed, .drainDeadline, .nightEnd, .keepAwake, .anchorOverload, .anchorLost, .heartbeatLapsed,
   .holdover, .fabricReset, .readyLost, .loadHigh, .beaconStarved, .deepen, .demand, .urgentDemand, .grant, .ready,
   .warmupElapsed, .warmupTimeout]

/-- The reasons of refusal in the order of their codes, from 1 (R163). -/
def reasonCodes : List RefusalReason :=
  [.masterClash, .sectorRange, .anchorCount, .windowShape, .windowOverlap, .ringShape, .busyCarrier, .busySector]

/-- The clamp names in the order of their bits, from 0 (R163). -/
def clampBits : List ClampName :=
  [.slotLength, .w, .k, .heartbeat, .nightStart, .nightEnd, .drainConfirm, .drainLimit, .beaconDeadline, .rbMax, .weight,
   .warmupTimeout, .tSleep, .tWake, .tDeep, .cAdm, .cOvl, .budgetLimit]

/-- The fault kinds in the order of their bits, from 0 (R163). -/
def faultBits : List FaultKind :=
  [.reservedMaster, .blockCross, .foreignPolicy, .reportWrite, .partialDescriptor, .misfiledDescriptor, .unsyncedDescriptor,
   .lateDescriptor, .earlyDescriptor, .clockRange, .consumerRange]

/-- A field holds the code of a value, the codes counted from `first` in the order of a list. -/
def Coded {α : Type} (codes : List α) (first field : Nat) (x : α) : Prop := first ≤ field ∧ codes[field - first]? = some x

/-- A field holds a set: bit `i` for the value at place `i` of a list, and no other bit. -/
def BitsOf {α : Type} (names : List α) (field : Nat) (set : List α) : Prop :=
  ∀ i : Nat, field.testBit i = true ↔ ∃ x ∈ set, names[i]? = some x

/-- The body of a record, bytes 0x10 to 0x1F (R163). -/
def BodyLaid (beats : List BeatData) : RecordBody → Prop
  | .stateChange _ left entered cause cls =>
    Coded stateCodes 0 (fieldAt beats 0x10 1) left ∧ Coded stateCodes 0 (fieldAt beats 0x11 1) entered
      ∧ Coded causeCodes 1 (fieldAt beats 0x12 1) cause
      ∧ (cls = none → fieldAt beats 0x13 1 = 0) ∧ (∀ k, cls = some k → Coded classCodes 0 (fieldAt beats 0x13 1) k)
      ∧ fieldAt beats 0x14 4 = 0 ∧ fieldAt beats 0x18 8 = 0
  | .policyApplied generation names =>
    fieldAt beats 0x10 4 = generation.toNat ∧ BitsOf clampBits (fieldAt beats 0x14 4) names ∧ fieldAt beats 0x18 8 = 0
  | .policyRefused generation reason index =>
    fieldAt beats 0x10 4 = generation.toNat ∧ Coded reasonCodes 1 (fieldAt beats 0x14 1) reason
      ∧ fieldAt beats 0x15 1 = index ∧ fieldAt beats 0x16 2 = 0 ∧ fieldAt beats 0x18 8 = 0
  | .faultReport l =>
    BitsOf faultBits (fieldAt beats 0x10 2) l.fault.kinds ∧ fieldAt beats 0x12 1 = l.fault.master.toNat
      ∧ fieldAt beats 0x13 1 = (if l.fault.kind = .write then 1 else 0) + (if l.more = true then 2 else 0)
      ∧ (l.fault.window = none → fieldAt beats 0x14 1 = 0xFF) ∧ (∀ i, l.fault.window = some i → fieldAt beats 0x14 1 = i)
      ∧ fieldAt beats 0x15 1 = 0 ∧ fieldAt beats 0x16 2 = 0 ∧ fieldAt beats 0x18 8 = l.fault.address.toNat
  | .timing value =>
    Coded [.locked, .holdover, .slip] 1 (fieldAt beats 0x10 1) value ∧ fieldAt beats 0x11 1 = 0 ∧ fieldAt beats 0x12 2 = 0
      ∧ fieldAt beats 0x14 4 = 0 ∧ fieldAt beats 0x18 8 = 0
  | .heartbeat value =>
    Coded [.lapsed, .alive] 1 (fieldAt beats 0x10 1) value ∧ fieldAt beats 0x11 1 = 0 ∧ fieldAt beats 0x12 2 = 0
      ∧ fieldAt beats 0x14 4 = 0 ∧ fieldAt beats 0x18 8 = 0
  | .fabricReset => fieldAt beats 0x10 8 = 0 ∧ fieldAt beats 0x18 8 = 0

/-- The kind byte of a record (R162). -/
def kindByte : RecordBody → Nat
  | .stateChange .. => 1
  | .policyApplied .. => 2
  | .policyRefused .. => 3
  | .faultReport _ => 4
  | .timing _ => 5
  | .heartbeat _ => 6
  | .fabricReset => 7

/-- A record as written: its header, bytes 0x00 to 0x0F, and its body (R162, R163). -/
def RecordLaid (gap : Bool) (r : Record) (beats : List BeatData) : Prop :=
  beats.length = 4 ∧ fieldAt beats 0x00 1 = kindByte r.body ∧ fieldAt beats 0x01 1 = (if gap = true then 1 else 0)
    ∧ (∀ c left entered cause cls, r.body = .stateChange c left entered cause cls → fieldAt beats 0x02 1 = c.val)
    ∧ (kindByte r.body ≠ 1 → fieldAt beats 0x02 1 = 0xFF) ∧ fieldAt beats 0x03 1 = 0
    ∧ fieldAt beats 0x04 4 = r.window.toNat ∧ fieldAt beats 0x08 4 = r.seconds
    ∧ fieldAt beats 0x0C 2 = r.slot.toNat ∧ fieldAt beats 0x0E 2 = 0 ∧ BodyLaid beats r.body

/-- The values of a record that the model holds as natural numbers fit their fields (R162, R163). -/
def RecordFits (r : Record) : Prop :=
  r.seconds < 2 ^ 32
    ∧ match r.body with
      | .policyRefused _ _ index => index < 256
      | .faultReport l => ∀ i, l.fault.window = some i → i < 256
      | _ => True

/-- The status block's entry of a carrier (R162). -/
def EntryLaid (state : CarrierState) (cls : Option WakeClass) (f : Figures) (d : BeatData) : Prop :=
  Coded stateCodes 0 (bitsAt d 0 4) state
    ∧ (cls = none → bitsAt d 4 2 = 0) ∧ (∀ k, cls = some k → Coded classCodes 0 (bitsAt d 4 2) k)
    ∧ bitsAt d 6 14 = f.load ∧ bitsAt d 20 10 = f.lastU ∧ bitsAt d 30 2 = 0
    ∧ bitsAt d 32 16 = f.latchedLight ∧ bitsAt d 48 16 = f.latchedOff

/-- The globals of the policy region, by offset and width (R161). -/
def GlobalsLaid (m : Memory) (g : Globals) : Prop :=
  g.slotCode = mirrorField m 0x040 1 ∧ g.k = mirrorField m 0x041 1
    ∧ g.scheduler.toNat = mirrorField m 0x042 1 % 8 ∧ g.fronthaul.toNat = mirrorField m 0x043 1 % 8
    ∧ g.w = mirrorField m 0x044 2 ∧ g.budgetLimit = mirrorField m 0x046 1 ∧ g.spacing = mirrorField m 0x047 1
    ∧ g.heartbeatCode = mirrorField m 0x048 1 ∧ g.attention = (mirrorField m 0x049 1).testBit 0
    ∧ g.ringCapacity = mirrorField m 0x04A 2 ∧ g.drainConfirm = mirrorField m 0x04C 1
    ∧ g.drainBackoff = mirrorField m 0x04D 1 ∧ g.drainLimit = mirrorField m 0x04E 2
    ∧ g.nightStart = mirrorField m 0x050 4 ∧ g.nightEnd = mirrorField m 0x054 4
    ∧ g.beaconDeadline = mirrorField m 0x058 2 ∧ g.reportSizeCode = mirrorField m 0x05A 1
    ∧ g.reportBase = mirrorField m 0x060 8 % 2 ^ 40

/-- The entry of a carrier marked present, at offset `a` of the policy region, by offset and width (R161). -/
def EntryRead (m : Memory) (a : Nat) (v : CarrierValues) : Prop :=
  v.role = (if (mirrorField m a 1).testBit 1 = true then .anchor else .capacity)
    ∧ v.supplyHigh = (mirrorField m a 1).testBit 2 ∧ v.keyHigh = (mirrorField m a 1).testBit 3
    ∧ v.sensing = (mirrorField m a 1).testBit 4 ∧ v.sleepEnable = (mirrorField m a 1).testBit 5
    ∧ v.deepEnable = (mirrorField m a 1).testBit 6
    ∧ v.sector = mirrorField m (a + 0x01) 1 ∧ v.rbMax = mirrorField m (a + 0x02) 2
    ∧ v.windowSizeCode = mirrorField m (a + 0x04) 1 ∧ v.weight = mirrorField m (a + 0x05) 1
    ∧ v.warmupTimeout = mirrorField m (a + 0x06) 2 ∧ v.windowBase = mirrorField m (a + 0x08) 8 % 2 ^ 40
    ∧ v.tSleep = mirrorField m (a + 0x10) 2 ∧ v.tWake = mirrorField m (a + 0x12) 2 ∧ v.tDeep = mirrorField m (a + 0x14) 2
    ∧ v.limits = (if v.role = .anchor then
        some { cAdm := mirrorField m (a + 0x16) 2, cOvl := mirrorField m (a + 0x18) 2 } else none)
    ∧ v.minOn = mirrorField m (a + 0x1A) 2 ∧ v.minSleep = mirrorField m (a + 0x1C) 2
    ∧ v.lightDwell = mirrorField m (a + 0x1E) 2

/-- The policy region as the Policy Loader reads it: the live words, the globals and the carrier entries (R161). -/
def RegionRead (m : Memory) : Prop :=
  (mirrorGeneration m).toNat = mirrorField m 0x000 4 ∧ (mirrorConsumer m).toNat = mirrorField m 0x008 2
    ∧ mirrorClockSet m = mirrorField m 0x00C 4
    ∧ (∀ c : Carrier, mirrorKeepAwake m c = (mirrorField m 0x010 3).testBit c.val)
    ∧ GlobalsLaid m (readPolicy m).globals
    ∧ ∀ c : Carrier,
      ((readPolicy m).entries.get c).present = (mirrorField m (0x100 + 64 * c.val) 1).testBit 0
        ∧ (((readPolicy m).entries.get c).present = true →
          EntryRead m (0x100 + 64 * c.val) ((readPolicy m).entries.get c))
        ∧ (((readPolicy m).entries.get c).present = false → (readPolicy m).entries.get c = .cleared)

/-! ### The laws of the spec -/

/-- The mirror keeps its canonical form: 2048 bytes, an unlisted one 0 (R136). -/
def MirrorLaw (s : State) : Prop := s.loader.mirror.wf = true

/-- The in-flight list holds at most 32 entries (R51), and the entry at its head awaits a downstream response: a local answer
leaves as soon as it is there (R48, R52). -/
def InFlightLaw (s : State) : Prop :=
  s.transit.inFlight.length ≤ Config.inFlightLimit ∧ ∀ e ∈ s.transit.inFlight.head?, e.disposition = .forwarded

/-- The pending queue holds at most 16 writes, and is full while a producer update is owed (R151). -/
def PendingLaw (s : State) : Prop :=
  s.report.pending.length ≤ Config.pendingLimit
    ∧ (s.report.updateOwed = true → s.report.pending.length = Config.pendingLimit)

/-- The ring law (R153): the ring is that of the applied policy (R150), and the records written and not yet consumed never
exceed its capacity. -/
def RingLaw (s : State) : Prop :=
  s.report.ring = s.loader.applied.map ringOf ∧ ∀ ring ∈ s.report.ring, s.report.unconsumed ≤ ring.capacity

/-- Every entry lies 1 to 4 slots ahead of the slot counter, and the entries stand in order of lead distance (R59, R69). -/
def leadsAscend (slot : Slot) : Nat → List Held → Prop
  | _, [] => True
  | low, h :: rest => low < leadDistance h.tag slot ∧ leadDistance h.tag slot ≤ 4 ∧ leadsAscend slot (leadDistance h.tag slot) rest

/-- The law of the held lists (R69): lead distances 1 to 4, each once and in order; RB at most RBmax; a list holds nothing
outside LOCKED (R76) or for a carrier that is not present (R72). Descriptor windows belong to present carriers (R46). -/
def HeldLaw (s : State) : Prop :=
  (∀ c : Carrier, leadsAscend s.timer.slot 0 (s.held c) ∧ (∀ h ∈ s.held c, h.rb ≤ (s.carrier c).values.rbMax)
    ∧ (s.held c ≠ [] → s.timer.state = .locked ∧ (s.carrier c).values.present = true))
  ∧ ∀ w ∈ s.transit.windows, ∀ h : w.index < 24, (s.carrier ⟨w.index, h⟩).values.present = true

/-- The figures are in range: L within 0 to 16000, and last u within 0 to 1000 (R83). -/
def LoadsInRange (s : State) : Prop := ∀ c : Carrier, (s.figures c).load ≤ 16000 ∧ (s.figures c).lastU ≤ 1000

/-- The sum of a carrier's window is at most RBmax for each measured slot, by the parameters it will be measured with (R82,
R87); and while a generation is looked for that would install its parameters at once, nothing has been summed. -/
def SumsFit (s : State) : Prop :=
  (∀ c : Carrier, (s.figures c).windowSum = 0 ∨ ∃ p, s.evaluator.params = some p ∧ evaluated p s c = true
    ∧ (s.figures c).windowSum ≤ (s.figures c).measured * (p.entries.get c).rbMax)
  ∧ (.generation ∈ s.due → s.loader.applied = none ∨ s.evaluator.lastEvaluated = s.timer.windowNumber - 1 →
    ∀ c : Carrier, (s.figures c).windowSum = 0)

/-- The window parameters are those of the applied policy, the window before the one in progress evaluated (R87). -/
def ParamsInForce (s : State) : Prop :=
  (s.loader.applied = none → s.evaluator.params = none)
  ∧ (s.loader.applied.isSome = true → s.evaluator.lastEvaluated = s.timer.windowNumber - 1)
  ∧ ∀ c : Carrier, (s.carrier c).values.present = true →
    ∃ p, s.evaluator.params = some p ∧ (p.entries.get c).present = true ∧ (p.entries.get c).rbMax = (s.carrier c).values.rbMax

/-- A command that makes a tick. -/
def makesTick : Instr → Bool
  | .externalTick _ _ | .localTick _ | .tickLoss _ _ => true
  | _ => false

/-- The law of sleep (R3, R17): a carrier is ABSENT exactly when it is not present, and a carrier that sleeps is a capacity
carrier whose sector's anchor is in ON. -/
def SleepLaw (s : State) : Prop :=
  ∀ c : Carrier, ((s.carrier c).state = .absent ↔ (s.carrier c).values.present = false)
    ∧ ((s.carrier c).state.sleeping = true → s.isCapacity c = true ∧ s.anchorOn (s.carrier c).values.sector = true)

/-- The law of a holdover: in HOLDOVER no DRAIN can come any more, and every capacity carrier is awake once the HOLDOVER cause
has been taken. DEDUCED (log entry 37): R100, R106 and R112 read against R25. -/
def HoldoverLaw (s : State) : Prop :=
  s.timer.state = .holdover →
    (∀ d ∈ s.due, d.mayDrain = false)
    ∧ (.failSafe .holdover ∈ s.due ∨ ∀ c : Carrier, s.isCapacity c = true → (s.carrier c).state.sleeping = false)

/-- The law of the budget (R115, R126): weights are charged exactly for the carriers in WARMING and those with a grant
outstanding, each once. -/
def BudgetLaw (s : State) : Prop :=
  (s.arbiter.charged.map Prod.fst).Nodup
    ∧ ∀ c : Carrier, c ∈ s.arbiter.charged.map Prod.fst ↔ (s.carrier c).state = .warming ∨ c ∈ grantsOutstanding s.due

end Sys2Proof.Machine
end

