-- ==== Sys2Proof/WellFormed.lean ====
section
/-! DEFINITION. Which commands have the form the bus protocol gives them (R42). Every other command is well-formed by its
type. -/

namespace Sys2Proof

/-- The beat count of a request lies from 1 to 8 (R42). -/
def countInRange (n : Nat) : Bool := decide (1 ≤ n) && decide (n ≤ 8)

/-- The address of a request is a multiple of 8 (R42). -/
def addressAligned (a : Address) : Bool := a.toNat % 8 == 0

/-- A WRITE carries one beat for each counted beat, and a READ carries none (R42). -/
def dataFits (r : Request) : Bool :=
  match r.kind with
  | .read => r.data.isEmpty
  | .write => r.data.length == r.count

/-- A request of the protocol of R42. -/
def Request.wellFormed (r : Request) : Bool :=
  countInRange r.count && addressAligned r.address && dataFits r

/-- With status ERROR every data beat is zero, and no response has more than 8 beats (R42). -/
def responseFits (status : ResponseStatus) (beats : List BeatData) : Bool :=
  decide (beats.length ≤ 8) && (status == .ok || beats.all (· == 0))

/-- The well-formed commands. -/
def Instr.wellFormed : Instr → Bool
  | .powerOnReset _ _ => true
  | .fabricReset _ => true
  | .externalTick _ _ => true
  | .tickLoss _ _ => true
  | .localTick _ => true
  | .drainConfirmed _ => true
  | .drainDeadline _ => true
  | .beaconStarved _ => true
  | .readyNotice _ => true
  | .clockSecondAdvance => true
  | .windowBoundary => true
  | .verdictList _ => true
  | .generationApplication => true
  | .upstreamRequest none => true
  | .upstreamRequest (some r) => r.wellFormed
  | .policyWrite _ data => countInRange data.length
  | .heartbeatWrite _ _ => true
  | .consumerIndexWrite _ _ => true
  | .clockSetWrite _ _ => true
  | .keepAwakeWrite _ _ => true
  | .downstreamResponse status beats => responseFits status beats
  | .reportGrant => true
  | .readyRise _ => true
  | .readyFall _ => true
  | .warmupExpiry _ => true
  | .spacingExpiry => true
  | .grant _ => true
  | .demand _ => true
  | .failSafeWake _ => true
  | .heartbeatLapse => true

end Sys2Proof
end

