-- ==== Sys2Proof/Certificates/Slice0/Obligations.lean ====
section
/-! DEFINITION. The statements for the provers, in the order of the spec's chapters. -/

open Sys2Proof Sys2Proof.Machine

/-! ### The machine as a whole -/

/-- A step takes the command at the front of the queue, and is `exec` of that command on the state with the queue's rest. On
an empty queue the part goes on by itself (the model's choice, log entry 3): it takes the next event outstanding as that
event's command takes it (the order is log entry 2's); with none, the downstream slot has a turn; with neither, tick loss is
detected once the loss timer has reached twice the slot length, or a local tick that is due is made, and each as its command
makes it (log entries 4 and 6); and else one microsecond of local time passes for the loss timer or the holdover generator
(log entry 29). -/
def Obligations.StepRunsFrontCommand : Prop :=
  (∀ (s : State) (i : Instr) (rest : List Instr), s.pending = i :: rest → step s = exec i { s with pending := rest })
  ∧ (∀ s : State, s.pending = [] → TakesOutstanding s ∧ (s.due = [] → LetsTimePass s))
  ∧ ∀ s : State, (s.loader.applied = none → s.slotLength = 1000)
    ∧ ∀ p, s.loader.applied = some p → s.slotLength = 1000 / 2 ^ p.globals.slotCode

/-- Every command has an effect in every state: none is refused and none faults, and none touches the commands waiting. The
ready lines are the amplifiers': only READY_RISE and READY_FALL change one, each its own carrier's alone. (That no command
is refused is the model's reading, log entry 30.) -/
def Obligations.EveryCommandAnswers : Prop :=
  ∀ (i : Instr) (s : State), ∃ t, exec i s = .next t
    ∧ OnlyChanges s t [.controller, .timer, .transit, .monitor, .evaluator, .arbiter, .loader, .report, .readyLines, .outputs, .due]
    ∧ match i with
      | .readyRise c => ∀ d : Carrier, t.readyLevel d = if d = c then true else s.readyLevel d
      | .readyFall c => ∀ d : Carrier, t.readyLevel d = if d = c then false else s.readyLevel d
      | _ => ∀ d : Carrier, t.readyLevel d = s.readyLevel d

/-- The machine right after reset holds the values the spec gives each block. (The straps low and the ready lines low are
the model's choice, log entry 11.) -/
def Obligations.ResetHoldsSpecValues : Prop := ResetValues State.reset ∧ State.reset.due = [] ∧ State.reset.pending = []

/-- POWER_ON_RESET returns every block to its reset values and samples the straps; the ready lines, the requests waiting at
the port and the outputs made are not the part's to reset. Until the answers of every request sent before it have come the
port accepts nothing: their count is what it was and the FORWARDED entries in flight. What it leaves, and that count, are the
model's choice (log entry 10). -/
def Obligations.PowerOnResetResult : Prop :=
  ∀ (strapBase : BitVec 20) (strapMaster : Master) (s : State),
    ∃ t, exec (.powerOnReset strapBase strapMaster) s = .next t ∧ ResetValues t ∧ t.due = []
      ∧ t.transit.policyBase = strapBase.toNat * 1048576 ∧ t.transit.policyMaster = strapMaster
      ∧ t.transit.waiting = s.transit.waiting
      ∧ t.transit.owedAnswers = s.transit.owedAnswers
          + (s.transit.inFlight.filter (fun e => e.disposition == .forwarded)).length
      ∧ OnlyChanges s t [.controller, .timer, .transit, .monitor, .evaluator, .arbiter, .loader, .report, .due]

/-! ### Carriers and their lines -/

/-- The levels of the three kinds of output line: the supply and key line of each carrier by its state, and the attention
line, active exactly while the ring is present, the attention enable set and the indices apart. -/
def Obligations.LineLevels : Prop :=
  ∀ s : State,
    (∀ c : Carrier,
      ((s.carrier c).state = .absent → s.supplyLine c = .released ∧ s.keyLine c = .released)
      ∧ ((s.carrier c).state ≠ .absent →
          s.supplyLine c = driveLine (s.carrier c).values.supplyHigh
            (decide ((s.carrier c).state ≠ .deep ∧ (s.carrier c).state ≠ .queued))
          ∧ s.keyLine c = driveLine (s.carrier c).values.keyHigh
            (decide ((s.carrier c).state = .on ∨ (s.carrier c).state = .draining
              ∨ (s.carrier c).state = .light ∧ (s.carrier c).keyed = true))))
    ∧ (s.attention = true ↔
        s.report.ring.isSome = true ∧ s.globals.attention = true ∧ s.report.producer ≠ s.report.consumer)

/-- READY_RISE. On a sensed line that was low, a carrier in WARMING enters ON with cause READY, L is set to 16000 and the
warm-up ends, its weight released before the arbiter's attempt. In every other case (a line already high, sensing off, a
carrier that is not in WARMING) only the line changes. -/
def Obligations.ReadyRiseResult : Prop :=
  ∀ (s : State) (c : Carrier), Quiet s →
    (s.readyLevel c = false → s.senses c = true → (s.carrier c).state = .warming →
      ∃ u, exec (.readyRise c) s = .next u.attempt
        ∧ u.carrier c = { s.carrier c with state := .on, minOnCount := 0 } ∧ OthersKept s u c
        ∧ u.figures c = { s.figures c with load := 16000 } ∧ OtherFiguresKept s u c
        ∧ u.readyLevel c = true
        ∧ u.arbiter = { s.arbiter with charged := s.arbiter.charged.filter (fun p => p.1 != c) }
        ∧ Handed s u (.stateChange c .warming .on .ready none)
        ∧ u.due = s.due.filter (fun d => d != .warmupExpiry c)
        ∧ OnlyChanges s u [.controller, .evaluator, .arbiter, .report, .readyLines, .due])
    ∧ (s.readyLevel c = true ∨ s.senses c = false ∨ (s.carrier c).state ≠ .warming →
        exec (.readyRise c) s = .next (s.setReady c true))

/-- READY_FALL. On a sensed line that was high, a serving carrier that is no anchor enters FAULTED with cause READY_LOST,
its counters and its load kept. Where the line was already low, sensing is off or the carrier is not serving, only the line
changes. -/
def Obligations.ReadyFallResult : Prop :=
  ∀ (s : State) (c : Carrier), Quiet s →
    (s.readyLevel c = true → s.senses c = true → s.isAnchor c = false → (s.carrier c).state.serving = true →
      ∃ t, exec (.readyFall c) s = .next t ∧ t.carrier c = { s.carrier c with state := .faulted } ∧ OthersKept s t c
        ∧ t.readyLevel c = false ∧ Handed s t (.stateChange c (s.carrier c).state .faulted .readyLost none)
        ∧ OnlyChanges s t [.controller, .report, .readyLines])
    ∧ (s.readyLevel c = false ∨ s.senses c = false ∨ (s.carrier c).state.serving = false →
        exec (.readyFall c) s = .next (s.setReady c false))

/-- The anchor-lost cascade: an anchor in ON whose sensed ready line falls enters FAULTED, and every capacity carrier of its
sector is woken with class URGENT; after it none of them drains or sleeps. The READY_LOST record comes first, and the records
of the sector's carriers follow in ascending number with cause ANCHOR_LOST; those in DEEP get entries with ordinals in that
order. -/
def Obligations.AnchorLostCascade : Prop :=
  ∀ (s : State) (c : Carrier), Quiet s → s.readyLevel c = true → s.senses c = true → s.isAnchor c = true →
    (s.carrier c).state = .on →
    ∃ t, exec (.readyFall c) s = .next t ∧ t.carrier c = { s.carrier c with state := .faulted }
      ∧ (∀ d : Carrier, s.isCapacity d = true → (s.carrier d).values.sector = (s.carrier c).values.sector →
          t.carrier d = (s.carrier d).woken .urgent ∧ (t.carrier d).state.sleeping = false)
      ∧ (∀ d : Carrier, d ≠ c → s.isCapacity d = false ∨ (s.carrier d).values.sector ≠ (s.carrier c).values.sector →
          t.carrier d = s.carrier d)
      ∧ (∀ beside : Carrier → Bool,
          beside = (fun d => s.isCapacity d && (s.carrier d).values.sector == (s.carrier c).values.sector) →
          t.report = s.report.handAll s
              (.stateChange c .on .faulted .readyLost none :: wakeBodies s beside .anchorLost .urgent)
          ∧ EntriesTaken s t s.due [] (deepOf s beside))
      ∧ OnlyChanges s t [.controller, .report, .arbiter, .due, .readyLines]

/-- DEMAND taken: a carrier in DEEP is queued with the class of the demand, and a new entry with the next ordinal is handed
to the arbiter. One in QUEUED whose class the demand's ranks above is raised, with one STATE record from QUEUED to QUEUED;
its entry keeps its ordinal and takes its place in the new class before the arbiter's attempt, and where its grant has been
made there is no entry. A class that does not rank above, and every other state, is left. The event taken is the one
outstanding (the model's choice, log entry 1). -/
def Obligations.DemandResult : Prop :=
  ∀ (s : State) (c : Carrier) (urgent : Bool) (rest : List Due), Quiet s →
    firstDue (isDemand c) s.due = some (.demand c urgent, rest) →
    ((s.carrier c).state = .deep →
      ∃ u, exec (.demand c) s = .next u.attempt
        ∧ u.carrier c = { s.carrier c with state := .queued, queuedClass := some (demandClass urgent) } ∧ OthersKept s u c
        ∧ u.arbiter = { s.arbiter with
            ordinal := s.arbiter.ordinal + 1
            queue := placeEntry { carrier := c, cls := demandClass urgent, ordinal := s.arbiter.ordinal + 1 } s.arbiter.queue }
        ∧ Handed s u (.stateChange c .deep .queued (demandCause urgent) (some (demandClass urgent)))
        ∧ u.due = rest ∧ OnlyChanges s u [.controller, .arbiter, .report, .due])
    ∧ (∀ old : WakeClass, (s.carrier c).state = .queued → (s.carrier c).queuedClass = some old →
        (old.rank ≤ (demandClass urgent).rank → exec (.demand c) s = .next { s with due := rest })
        ∧ ((demandClass urgent).rank < old.rank → (∀ e ∈ s.arbiter.queue, e.carrier ≠ c) →
          ∃ t, exec (.demand c) s = .next t
            ∧ t.carrier c = { s.carrier c with queuedClass := some (demandClass urgent) } ∧ OthersKept s t c
            ∧ Handed s t (.stateChange c .queued .queued (demandCause urgent) (some (demandClass urgent)))
            ∧ t.due = rest ∧ OnlyChanges s t [.controller, .report, .due])
        ∧ ((demandClass urgent).rank < old.rank →
          ∀ (before after : List WakeEntry) (e : WakeEntry), s.arbiter.queue = before ++ e :: after → e.carrier = c →
          (∀ f ∈ before, f.carrier ≠ c) →
          ∃ u, exec (.demand c) s = .next u.attempt
            ∧ u.carrier c = { s.carrier c with queuedClass := some (demandClass urgent) } ∧ OthersKept s u c
            ∧ u.arbiter = { s.arbiter with
                queue := placeEntry { carrier := c, cls := demandClass urgent, ordinal := e.ordinal } (before ++ after) }
            ∧ Handed s u (.stateChange c .queued .queued (demandCause urgent) (some (demandClass urgent)))
            ∧ u.due = rest ∧ OnlyChanges s u [.controller, .arbiter, .report, .due]))
    ∧ ((s.carrier c).state ≠ .deep → (s.carrier c).state ≠ .queued → exec (.demand c) s = .next { s with due := rest })

/-- FAIL_SAFE_WAKE: the cause wakes every present capacity carrier with class URGENT and touches no anchor, no figures and
no policy. The STATE records follow in ascending carrier number, each with the cause, and the carriers in DEEP get entries with
ordinals in that order. The event taken is the one outstanding (the model's choice, log entry 1). -/
def Obligations.FailSafeWakesSleepers : Prop :=
  ∀ (s : State) (cause : FailSafe) (rest : List Due), Quiet s →
    firstDue (fun d => d == .failSafe cause) s.due = some (.failSafe cause, rest) →
    ∃ t, exec (.failSafeWake cause) s = .next t
      ∧ (∀ c : Carrier, t.carrier c = if s.isCapacity c = true then (s.carrier c).woken .urgent else s.carrier c)
      ∧ (∀ c : Carrier, s.isCapacity c = true → (t.carrier c).state.sleeping = false)
      ∧ t.report = s.report.handAll s (wakeBodies s s.isCapacity
          (match cause with
            | .holdover => .holdover
            | .heartbeatLapsed => .heartbeatLapsed
            | .fabricReset => .fabricReset) .urgent)
      ∧ EntriesTaken s t rest [] (deepOf s s.isCapacity)
      ∧ OnlyChanges s t [.controller, .report, .arbiter, .due]

/-- GRANT. With ready sensing off or the ready line low the carrier enters WARMING with cause GRANT, without queued class
and sleep counter. With ready sensing on and the line high it goes on to ON within the event: two records are handed, the
GRANT record first, L is set to 16000, and the weight is released before the arbiter's attempt. Grants are taken in the order
made: one that is not the oldest outstanding is not taken yet. The event taken is one outstanding (the model's choice, log
entry 1). -/
def Obligations.GrantResult : Prop :=
  ∀ (s : State) (c : Carrier), Quiet s →
    (∀ rest : List Due, firstDue isGrant s.due = some (.grant c, rest) → (s.carrier c).state = .queued →
      ((s.carrier c).values.sensing = false ∨ s.readyLevel c = false →
        ∃ t, exec (.grant c) s = .next t
          ∧ t.carrier c = { s.carrier c with state := .warming, queuedClass := none, sleepCount := none, warmupElapsed := 0 }
          ∧ OthersKept s t c ∧ Handed s t (.stateChange c .queued .warming .grant none) ∧ t.due = rest
          ∧ OnlyChanges s t [.controller, .report, .due])
      ∧ ((s.carrier c).values.sensing = true → s.readyLevel c = true →
        ∃ u, exec (.grant c) s = .next u.attempt
          ∧ u.carrier c = { s.carrier c with
              state := .on, queuedClass := none, sleepCount := none, warmupElapsed := 0, minOnCount := 0 }
          ∧ OthersKept s u c ∧ u.figures c = { s.figures c with load := 16000 } ∧ OtherFiguresKept s u c
          ∧ u.arbiter = { s.arbiter with charged := s.arbiter.charged.filter (fun p => p.1 != c) }
          ∧ u.report = (s.report.hand (s.makeRecord s.timer.windowNumber (.stateChange c .queued .warming .grant none))).hand
              (s.makeRecord s.timer.windowNumber (.stateChange c .warming .on .ready none))
          ∧ u.due = rest.filter (fun d => d != .warmupExpiry c)
          ∧ OnlyChanges s u [.controller, .evaluator, .arbiter, .report, .due]))
    ∧ (∀ (d : Carrier) (rest : List Due), firstDue isGrant s.due = some (.grant d, rest) → d ≠ c →
        exec (.grant c) s = .next s)
    ∧ ((∀ d : Carrier, .grant d ∉ s.due) → exec (.grant c) s = .next s)

/-- WARMUP_EXPIRY of a carrier in WARMING: FAULTED with cause WARMUP_TIMEOUT and L kept if sensing is on, ON with cause
WARMUP_ELAPSED and L at 16000 if it is off; the weight is released before the arbiter's attempt. The event taken is the one
outstanding (the model's choice, log entry 1). -/
def Obligations.WarmupExpiryResult : Prop :=
  ∀ (s : State) (c : Carrier) (rest : List Due), Quiet s →
    firstDue (fun d => d == .warmupExpiry c) s.due = some (.warmupExpiry c, rest) → (s.carrier c).state = .warming →
    ∃ u, exec (.warmupExpiry c) s = .next u.attempt
      ∧ ((s.carrier c).values.sensing = true →
          u.carrier c = { s.carrier c with state := .faulted } ∧ u.figures c = s.figures c
          ∧ Handed s u (.stateChange c .warming .faulted .warmupTimeout none))
      ∧ ((s.carrier c).values.sensing = false →
          u.carrier c = { s.carrier c with state := .on, minOnCount := 0 }
          ∧ u.figures c = { s.figures c with load := 16000 }
          ∧ Handed s u (.stateChange c .warming .on .warmupElapsed none))
      ∧ OthersKept s u c ∧ OtherFiguresKept s u c
      ∧ u.arbiter = { s.arbiter with charged := s.arbiter.charged.filter (fun p => p.1 != c) }
      ∧ u.due = rest.filter (fun d => d != .warmupExpiry c)
      ∧ OnlyChanges s u [.controller, .evaluator, .arbiter, .report, .due]

/-! ### Draining and light sleep -/

/-- The ends of a drain and of a starved light sleep. DRAIN_CONFIRMED: the carrier enters LIGHT, its light and beacon
counters at 0, its key at the level the confirming slot chose. DRAIN_DEADLINE: it enters ON, its minOn counter at 0 and its
drain backoff at the drainBackoff of the applied policy. BEACON_STARVED: it enters ON, its minOn counter at 0. Everything
else of its record is kept. The event taken is the one outstanding (the model's choice, log entry 1). -/
def Obligations.DrainAndLightEnds : Prop :=
  ∀ (s : State) (c : Carrier) (rest : List Due),
    (∀ beacon : Bool, (s.carrier c).state = .draining →
      firstDue (isDrainConfirmed c) s.due = some (.drainConfirmed c beacon, rest) →
      ∃ t, exec (.drainConfirmed c) s = .next t
        ∧ t.carrier c = { s.carrier c with state := .light, lightCount := 0, beaconCount := 0, keyed := beacon }
        ∧ OthersKept s t c ∧ Handed s t (.stateChange c .draining .light .drainConfirmed none) ∧ t.due = rest
        ∧ OnlyChanges s t [.controller, .report, .due])
    ∧ ((s.carrier c).state = .draining →
      firstDue (fun d => d == .drainDeadline c) s.due = some (.drainDeadline c, rest) →
      ∃ t, exec (.drainDeadline c) s = .next t
        ∧ t.carrier c = { s.carrier c with state := .on, minOnCount := 0, backoff := s.globals.drainBackoff }
        ∧ OthersKept s t c ∧ Handed s t (.stateChange c .draining .on .drainDeadline none) ∧ t.due = rest
        ∧ OnlyChanges s t [.controller, .report, .due])
    ∧ ((s.carrier c).state = .light →
      firstDue (fun d => d == .beaconStarved c) s.due = some (.beaconStarved c, rest) →
      ∃ t, exec (.beaconStarved c) s = .next t
        ∧ t.carrier c = { s.carrier c with state := .on, minOnCount := 0 }
        ∧ OthersKept s t c ∧ Handed s t (.stateChange c .light .on .beaconStarved none) ∧ t.due = rest
        ∧ OnlyChanges s t [.controller, .report, .due])

/-- R98 and R99, for a tick taken by a carrier in DRAINING. At each retired slot the empty run advances by one, staying at
255, or is set to 0 by an RB above 0; at a tick that retires nothing it stands. At every tick, locked or not, the elapsed
counter advances by one and stays at 65535. -/
def Obligations.DrainCounters : Prop :=
  ∀ (s : State) (fresh : List Carrier) (c : Carrier), (s.carrier c).state = .draining → (s.carrier c).emptyRun ≤ 255 →
    (s.carrier c).drainElapsed ≤ 65535 →
    ((s.carrier c).values.present = true →
      ((s.slotsTick true fresh).carrier c).emptyRun =
        if (retiredSlot (s.held c) s.timer.slot).rb = 0 then min ((s.carrier c).emptyRun + 1) 255 else 0)
    ∧ ((s.slotsTick false fresh).carrier c).emptyRun = (s.carrier c).emptyRun
    ∧ ∀ locked : Bool,
        ((s.slotsTick locked fresh).carrier c).drainElapsed = min ((s.carrier c).drainElapsed + 1) 65535

/-! ### Slot time -/

/-- EXTERNAL_TICK: the timer state, the slot counter and the loss timer after it, by the timer state and the zero mark; the
entry to LOCKED hands a TIMING record LOCKED, made when the counter has been set to 0 (the model's choice, log entry 32).
With no event outstanding the tick is taken at once (the model's choice, log entry 2). -/
def Obligations.ExternalTickTable : Prop :=
  ∀ (s : State) (mark : Bool) (order : TickOrder), s.due = [] →
    ∃ t, exec (.externalTick mark order) s = .next t ∧ OnlyChanges s t inner
      ∧ (match s.timer.state, mark with
        | .unsynced, false => t.timer.state = .unsynced ∧ t.timer.slot = s.timer.slot + 1 ∧ t.timer.lossTimer = 0
        | .unsynced, true => t.timer.state = .locked ∧ t.timer.slot = 0 ∧ t.timer.lossTimer = 0 ∧ t.timer.holdover = none
        | .locked, false => t.timer.state = .locked ∧ t.timer.slot = s.timer.slot + 1 ∧ t.timer.lossTimer = 0
        | .locked, true => t.timer.state = .locked ∧ t.timer.slot = 0 ∧ t.timer.lossTimer = 0
        | .holdover, false => t = s
        | .holdover, true => t.timer.state = .locked ∧ t.timer.slot = 0 ∧ t.timer.lossTimer = 0 ∧ t.timer.holdover = none)
      ∧ (s.timer.state ≠ .locked → mark = true → PlainTick s order →
          t.report = s.report.hand
            { window := s.timer.windowNumber, seconds := s.timer.seconds, slot := 0, body := .timing .locked })

/-- A locked tick, be it the tick of entry, a marked one, a slip or a boundary: each present carrier retires the slot begun,
is measured by its state and has the counters of its state advanced; the counters of every other block advance; and the tick
brings about the events whose counters reach their limits, the boundary where it closes a window and the look for a
generation, and no others. Those events are taken after it, so that the
sub-second count and the heartbeat timer stand at their limits until then (the model's choice, log entry 28), and so does a
carrier whose drain ends at the tick (log entries 1 and 2). The TIMING record is made when the counter has been set (log entry
32). A ready notice comes at each tick that brings the counter to its minSleep (log entry 39). With no event outstanding the
tick is taken at once (log entry 2), here with no application and no lapse between its takings (log entry 5). -/
def Obligations.LockedTickResult : Prop :=
  ∀ (s : State) (mark : Bool) (order : TickOrder), s.due = [] → s.timer.state = .locked ∨ mark = true → PlainTick s order →
    ∃ t, exec (.externalTick mark order) s = .next t
      ∧ (∀ c : Carrier, (s.carrier c).values.present = true →
          RecordTicked (s.carrier c) (some (retiredSlot (s.listAtTick mark c) (s.slotBegun mark))) (t.carrier c)
          ∧ t.held c = (s.listAtTick mark c).filter (fun h => h.tag != s.slotBegun mark)
          ∧ SlotMeasured (s.figures c) (s.carrier c).state (retiredSlot (s.listAtTick mark c) (s.slotBegun mark)).rb (t.figures c))
      ∧ (∀ c : Carrier, (s.carrier c).values.present = false →
          RecordTicked (s.carrier c) none (t.carrier c) ∧ t.held c = s.listAtTick mark c ∧ t.figures c = s.figures c)
      ∧ t.timer.state = .locked ∧ t.timer.slot = s.slotBegun mark ∧ t.timer.lossTimer = 0
      ∧ (s.timer.state = .locked → t.timer.holdover = s.timer.holdover)
      ∧ (s.timer.state ≠ .locked → t.timer.holdover = none)
      ∧ CountersTicked s t (!s.slips mark)
      ∧ (s.timer.state = .locked → s.slips mark = false → t.report = s.report)
      ∧ (s.slips mark = true → t.report = s.report.hand
          { window := s.timer.windowNumber, seconds := s.timer.seconds, slot := 0, body := .timing .slip })
      ∧ (s.timer.state ≠ .locked → t.report = s.report.hand
          { window := s.timer.windowNumber, seconds := s.timer.seconds, slot := 0, body := .timing .locked })
      ∧ TickBrings s t (fun c =>
          if (s.carrier c).values.present = true then some (retiredSlot (s.listAtTick mark c) (s.slotBegun mark)) else none)
          true (!s.slips mark) []
      ∧ OnlyChanges s t [.controller, .timer, .monitor, .evaluator, .arbiter, .loader, .report, .due]

/-- An unlocked tick, be it a local tick in HOLDOVER or an external tick in UNSYNCED: nothing is retired or measured, every
tick counter advances, the window is unclean, the tick brings about the events whose counters reach their limits, the boundary
where it closes a window and the look for a generation, and no others, and after a local tick the next follows by one slot
length. Outside HOLDOVER there is no local tick. LOCAL_TICK comes at whatever moment of local time (the model's choice, log
entry 4). The sub-second count and the heartbeat timer stand at their limits until the second or the lapse is taken (log entry
28), and so does a carrier whose drain ends (log entries 1 and 2). A ready notice comes at each tick that brings the counter
to its minSleep (log entry 39). With no event outstanding the tick is taken at once (log entry 2), here with no application
and no lapse between its takings (log entry 5). -/
def Obligations.LocalTickResult : Prop :=
  ∀ (s : State) (order : TickOrder), s.due = [] →
    (s.timer.state ≠ .holdover → exec (.localTick order) s = .next s)
    ∧ (s.timer.state = .holdover → PlainTick s order →
      ∃ t, exec (.localTick order) s = .next t ∧ UnlockedTick s t [] ∧ t.timer.state = .holdover
        ∧ t.timer.holdover = some s.slotLength ∧ t.timer.lossTimer = s.timer.lossTimer)
    ∧ (s.timer.state = .unsynced → PlainTick s order →
      ∃ t, exec (.externalTick false order) s = .next t ∧ UnlockedTick s t [] ∧ t.timer.state = .unsynced
        ∧ t.timer.holdover = s.timer.holdover ∧ t.timer.lossTimer = 0)

/-- A slip: every held list is flushed, the window in progress is unclean, the counter is 0, and every present carrier retires
an empty slot; a TIMING record SLIP is handed, made when the counter has been set and before a clock second of the same tick
(the model's choice, log entry 32). With no event outstanding the tick is taken at once (the model's choice, log entry 2),
here with no application and no lapse between its takings (log entry 5). -/
def Obligations.SlipResult : Prop :=
  ∀ (s : State) (order : TickOrder), s.due = [] → s.timer.state = .locked → s.timer.slot ≠ 4095 → PlainTick s order →
    ∃ t, exec (.externalTick true order) s = .next t ∧ (∀ c : Carrier, t.held c = [])
      ∧ (∀ c : Carrier, (s.carrier c).values.present = true →
          RecordTicked (s.carrier c) (some { rb := 0, beacon := false }) (t.carrier c)
          ∧ SlotMeasured (s.figures c) (s.carrier c).state 0 (t.figures c))
      ∧ t.timer.state = .locked ∧ t.timer.slot = 0 ∧ t.timer.lossTimer = 0
      ∧ (s.closesWindow = false → t.timer.clean = false)
      ∧ (s.closesWindow = true → .boundary s.timer.windowNumber false true ∈ t.due)
      ∧ t.report = s.report.hand { window := s.timer.windowNumber, seconds := s.timer.seconds, slot := 0, body := .timing .slip }

/-- A tick that closes a window, external or local, begins the next and hands the boundary on with the number of the window
that ends, its clean flag (unclean by an unlocked tick or a slip at the boundary itself) and whether the tick is locked. The
Policy Loader looks for a staged generation at it: after the other takings, or within the tick where the operand puts its
application before some of them, and then none is staged any more. With no event outstanding the tick is taken at once, and
the order is the operand's (the model's choices, log entries 2 and 5). -/
def Obligations.BoundaryTickHandsOn : Prop :=
  ∀ (s : State) (order : TickOrder), s.due = [] → s.loader.applied.isSome = true → s.closesWindow = true →
    (∀ mark : Bool, s.timer.state ≠ .holdover ∨ mark = true →
      ∃ t, exec (.externalTick mark order) s = .next t
        ∧ BoundaryHanded s t order (decide (s.timer.state = .locked) || mark) (s.slips mark))
    ∧ (s.timer.state = .holdover → ∃ t, exec (.localTick order) s = .next t ∧ BoundaryHanded s t order false false)

/-- TICK_LOSS in UNSYNCED or LOCKED: HOLDOVER is entered, every held list flushed, the window unclean and a TIMING record
HOLDOVER handed; then the cause is taken in the place its operand gives it among the events outstanding and the first local
tick (the model's choice, log entry 6), and that tick is made at once, the next one slot length on. The events that may put a
carrier into DRAINING are taken before the cause (the model's inference, log entry 37), so that afterwards no capacity carrier
sleeps, or the cause is still outstanding, and no DRAIN can come any more. Taken before every other event, or with none
outstanding before the local tick, the cause has woken every sleeper; left to a later moment it stays outstanding. The loss timer is not looked at (the model's choice, log entry 4). In HOLDOVER there is no tick loss. -/
def Obligations.TickLossEntersHoldover : Prop :=
  ∀ (s : State) (cause : HoldoverOrder) (order : TickOrder), Quiet s →
    (s.timer.state ≠ .holdover →
      ∃ u, u.timer = { s.timer with state := .holdover, clean := false, holdover := some 0 } ∧ (∀ c : Carrier, u.held c = [])
        ∧ Handed s u (.timing .holdover) ∧ OnlyChanges s u [.timer, .monitor, .report]
        ∧ ∃ v t, exec (.tickLoss cause order) s = .next t ∧ t = v.takeLocalTick order
          ∧ ((∀ d ∈ s.due, d.mayDrain = false) → u.takeDrains = u)
          ∧ (∀ d ∈ u.takeDrains.due, d.mayDrain = false) ∧ HoldoverLaw t
          ∧ (cause = .beforeOutstanding → v = (u.takeDrains.takeFailSafe .holdover).settle order.handedWait
              ∧ ∀ c : Carrier, (u.takeDrains.takeFailSafe .holdover).carrier c =
                  if s.isCapacity c = true then (u.takeDrains.carrier c).woken .urgent else u.takeDrains.carrier c)
          ∧ (cause = .afterOutstanding → v = (u.takeDrains.addDue (.failSafe .holdover)).settle order.handedWait)
          ∧ (cause = .afterLocalTick → v = (u.takeDrains.settle order.handedWait).addDue (.failSafe .holdover)
              ∧ .failSafe .holdover ∈ t.due)
          ∧ t.timer.state = .holdover ∧ t.timer.holdover = some t.slotLength ∧ (∀ c : Carrier, t.held c = [])
          ∧ OnlyChanges s t inner
          ∧ (s.due = [] →
              t.timer.slot = s.timer.slot + 1
              ∧ (s.loader.applied.isSome = true → s.closesWindow = false → t.timer.clean = false)
              ∧ (cause ≠ .afterLocalTick → ∀ c : Carrier, s.isCapacity c = true → (t.carrier c).state.sleeping = false)
              ∧ (cause = .afterLocalTick → PlainTick s order → UnlockedTick u t [.failSafe .holdover])))
    ∧ (s.timer.state = .holdover → exec (.tickLoss cause order) s = .next s)

/-- CLOCK_SECOND_ADVANCE: the seconds advance by one, from 86399 to 0, and the sub-second count returns to 0. The event
taken is the one outstanding (the model's choice, log entry 1). -/
def Obligations.ClockSecondResult : Prop :=
  ∀ (s : State) (rest : List Due), firstDue (fun d => d == .clockSecond) s.due = some (.clockSecond, rest) →
    ∃ t, exec .clockSecondAdvance s = .next t
      ∧ (s.timer.seconds < 86399 → t.timer = { s.timer with seconds := s.timer.seconds + 1, subSecond := 0 })
      ∧ (s.timer.seconds = 86399 → t.timer = { s.timer with seconds := 0, subSecond := 0 })
      ∧ t.due = rest ∧ OnlyChanges s t [.timer, .due]

/-! ### The Transit Path -/

/-- R44, R55: the arbiter gives the slot only with fewer than 32 entries in flight and a port that accepts, to the side that
waits alone, and where both wait to the one not granted last. Where it gives no slot a request presented waits and a report
write stays pending; where both wait and the other side has the turn, that side is granted first. A request already waiting at
the upstream port is served by UPSTREAM_REQUEST as one presented now is, and each write of the policy master is the
UPSTREAM_REQUEST of its request. The port that does not accept is one that owes answers from before a power-on reset, and a
command names the side that is to have the turn (the model's choices, log entries 8, 9 and 10). -/
def Obligations.WaitingRequestServed : Prop :=
  ∀ s : State, Quiet s →
    ((32 ≤ s.transit.inFlight.length ∨ s.transit.owedAnswers ≠ 0) →
        s.arbiterChoice = none ∧ exec .reportGrant s = .next s ∧ exec (.upstreamRequest none) s = .next s
        ∧ ∀ r : Request, exec (.upstreamRequest (some r)) s =
          .next { s with transit := { s.transit with waiting := s.transit.waiting ++ [r] } })
    ∧ (s.transit.inFlight.length < 32 → s.transit.owedAnswers = 0 →
        (s.transit.waiting ≠ [] → s.report.ring = none ∨ s.report.pending = [] → s.arbiterChoice = some .upstream)
        ∧ (s.transit.waiting = [] → s.report.ring.isSome = true → s.report.pending ≠ [] → s.arbiterChoice = some .report)
        ∧ (s.transit.waiting ≠ [] → s.report.ring.isSome = true → s.report.pending ≠ [] →
            s.arbiterChoice = match s.transit.turn with
              | .report => some .upstream
              | .upstream => some .report)
        ∧ (s.transit.waiting = [] → s.report.ring = none ∨ s.report.pending = [] →
            s.arbiterChoice = none ∧ exec .reportGrant s = .next s ∧ exec (.upstreamRequest none) s = .next s))
    ∧ (s.transit.inFlight.length < 32 → s.transit.owedAnswers = 0 → s.transit.waiting ≠ [] → s.report.ring.isSome = true →
        s.report.pending ≠ [] →
        (s.transit.turn = .report → ∃ u, exec (.upstreamRequest none) s = .next u ∧ u.transit.turn = .upstream
          ∧ u.transit.waiting = s.transit.waiting.tail ∧ exec .reportGrant s = exec .reportGrant u)
        ∧ (s.transit.turn = .upstream → ∃ u, exec .reportGrant s = .next u ∧ u.transit.turn = .report
          ∧ u.transit.waiting = s.transit.waiting ∧ exec (.upstreamRequest none) s = exec (.upstreamRequest none) u))
    ∧ (∀ r : Request, exec (.upstreamRequest none) (s.present r) = exec (.upstreamRequest (some r)) s)
    ∧ (∀ (beat : BitVec 8) (data : List Beat),
        exec (.policyWrite beat data) s = exec (.upstreamRequest (some (s.policyRequest (8 * beat.toNat) data))) s)
    ∧ (∀ (v : BitVec 32) (e : BitVec 4),
        exec (.heartbeatWrite v e) s = exec (.policyWrite 0 [wordBeat 4 v.toNat e.toNat]) s
        ∧ exec (.clockSetWrite v e) s = exec (.policyWrite 1 [wordBeat 4 v.toNat e.toNat]) s)
    ∧ (∀ (v : BitVec 16) (e : BitVec 2), exec (.consumerIndexWrite v e) s = exec (.policyWrite 1 [wordBeat 0 v.toNat e.toNat]) s)
    ∧ ∀ (v : BitVec 24) (e : BitVec 3), exec (.keepAwakeWrite v e) s = exec (.policyWrite 2 [wordBeat 0 v.toNat e.toNat]) s

/-- R45: a request crosses its block exactly when its address modulo 64 plus 8 for each beat exceeds 64; it then touches its
own block and the next and no other, it is refused with BLOCK_CROSS whatever else it is, and both blocks are classified. For a
request that runs past the top of the 40-bit space the next block lies above it and is not block 0 (the model's inference, log
entry 19). -/
def Obligations.BlockRule : Prop :=
  ∀ (r : Request) (t : TransitPath), r.wellFormed = true →
    (crossesBlock r = true ↔ 64 < r.address.toNat % 64 + 8 * r.count)
    ∧ (∀ a : Nat, r.address.toNat ≤ a → a < r.address.toNat + 8 * r.count →
        blockOf a = blockOf r.address.toNat ∨ (crossesBlock r = true ∧ blockOf a = blockOf r.address.toNat + 64))
    ∧ (crossesBlock r = true → ∃ a : Nat, r.address.toNat ≤ a ∧ a < r.address.toNat + 8 * r.count
        ∧ blockOf a = blockOf r.address.toNat + 64)
    ∧ (FaultKind.blockCross ∈ requestFaults r t ↔ crossesBlock r = true)
    ∧ (crossesBlock r = true →
        blockClasses r t = [t.classify (blockOf r.address.toNat), t.classify (blockOf r.address.toNat + 64)])

/-- R46, R47: a block is classified by the first window of the table that contains it; a request meets RESERVED_MASTER where
its master is 7, BLOCK_CROSS where it crosses, FOREIGN_POLICY where it is a WRITE that touches a POLICY block from another
master than the policy master, REPORT_WRITE where it is a WRITE that touches a REPORT block, and no other condition; and its
window index is that of its first block, or else of the second where it crosses. UPSTREAM_REQUEST of a refused request: it is
not sent downstream, its fault is latched, and it is answered with ERROR at once where nothing is in flight, or takes its
place behind what is. That this holds of ill-formed requests too is the model's choice (log entry 18). The lists of requests
sent and answers given are the model's own traces (log entry 12), and the block after the last of the 40-bit space is the
model's inference (log entry 19). -/
def Obligations.RefusedRequest : Prop :=
  (∀ (t : TransitPath) (block : Nat),
    ((∀ w ∈ t.windows, ¬(w.base ≤ block ∧ block < w.base + w.size)) → t.classify block = .none)
    ∧ ∀ (before after : List Window) (w : Window), t.windows = before ++ w :: after →
        (∀ v ∈ before, ¬(v.base ≤ block ∧ block < v.base + v.size)) → w.base ≤ block → block < w.base + w.size →
        (∀ c : Carrier, w.index = c.val → t.classify block = .descriptor c)
        ∧ (w.index = 24 → t.classify block = .policy) ∧ (w.index = 25 → t.classify block = .report))
  ∧ (∀ (r : Request) (t : TransitPath),
    (.reservedMaster ∈ requestFaults r t ↔ r.master = 7)
    ∧ (.blockCross ∈ requestFaults r t ↔ 64 < r.address.toNat % 64 + 8 * r.count)
    ∧ (.foreignPolicy ∈ requestFaults r t ↔ r.kind = .write ∧ TouchesClass r t .policy ∧ r.master ≠ t.policyMaster)
    ∧ (.reportWrite ∈ requestFaults r t ↔ r.kind = .write ∧ TouchesClass r t .report)
    ∧ (∀ k ∈ requestFaults r t, k = .reservedMaster ∨ k = .blockCross ∨ k = .foreignPolicy ∨ k = .reportWrite)
    ∧ ∃ second, IndexNamed (t.classify (blockOf r.address.toNat)) (requestWindow r t) second
      ∧ (64 < r.address.toNat % 64 + 8 * r.count → IndexNamed (t.classify (blockOf r.address.toNat + 64)) second none)
      ∧ (r.address.toNat % 64 + 8 * r.count ≤ 64 → second = none))
  ∧ ∀ (s : State) (r : Request), Quiet s → UpstreamNext s → requestFaults r s.transit ≠ [] →
    ∃ t, exec (.upstreamRequest (some r)) s = .next t
      ∧ t.report = { s.report with latch := some {
            fault := { kinds := requestFaults r s.transit, master := r.master, kind := r.kind, address := r.address,
                       window := requestWindow r s.transit },
            more := s.report.latch.isSome } }
      ∧ t.outside.sentDownstream = s.outside.sentDownstream
      ∧ (s.transit.inFlight = [] →
          t.transit = { s.transit with turn := .upstream }
          ∧ t.outside.givenUpstream = s.outside.givenUpstream ++
              [{ master := r.master, status := .error, beats := if r.kind = .read then List.replicate r.count 0 else [] }])
      ∧ (∀ e rest, s.transit.inFlight = e :: rest → e.disposition = .forwarded →
          t.transit = { s.transit with
            turn := .upstream
            inFlight := s.transit.inFlight ++
              [{ origin := .upstream, kind := r.kind, disposition := .localAnswer, abandoned := false, mask := none
                 master := r.master, count := r.count }] }
          ∧ t.outside.givenUpstream = s.outside.givenUpstream)
      ∧ OnlyChanges s t [.transit, .report, .outputs]

/-- UPSTREAM_REQUEST of a forwarded READ: it is sent unchanged, and is marked exactly when it is the fronthaul master's read
of a dark carrier's descriptor block. That this holds of ill-formed requests too is the model's choice (log entry 18). The
lists of requests sent and answers given are the model's own traces (log entry 12). -/
def Obligations.ForwardedRead : Prop :=
  ∀ (s : State) (r : Request), Quiet s → UpstreamNext s → requestFaults r s.transit = [] → r.kind = .read →
    ∃ t mask, exec (.upstreamRequest (some r)) s = .next t
      ∧ t.outside.sentDownstream = s.outside.sentDownstream ++ [r] ∧ t.outside.givenUpstream = s.outside.givenUpstream
      ∧ t.transit = { s.transit with
          turn := .upstream
          inFlight := s.transit.inFlight ++
            [{ origin := .upstream, kind := .read, disposition := .forwarded, abandoned := false, mask := mask
               master := r.master, count := r.count }] }
      ∧ (∀ c : Carrier, s.transit.classify (blockOf r.address.toNat) = .descriptor c →
          s.transit.fronthaul = some r.master → (s.carrier c).state.dark = true →
          mask = some ((List.range r.count).map (fun i =>
            if (r.address.toNat % 64 + 8 * i) % 32 = 0 then BlankMark.first else .later)))
      ∧ ((∀ c : Carrier, s.transit.classify (blockOf r.address.toNat) = .descriptor c →
            s.transit.fronthaul ≠ some r.master ∨ (s.carrier c).state.dark = false) → mask = none)
      ∧ OnlyChanges s t [.transit, .outputs]

/-- UPSTREAM_REQUEST of a forwarded WRITE: it is sent unchanged. Of the scheduler master's write into a descriptor window the
first beats at block offsets 0x00 and 0x20 that it covers are handed to the Descriptor Monitor, in that order, each with its
cell's address; a write that neither master's handing concerns changes nothing else. That this holds of ill-formed requests too
is the model's choice (log entry 18). The lists of requests sent and answers
given are the model's own traces (log entry 12). -/
def Obligations.ForwardedWrite : Prop :=
  ∀ (s : State) (r : Request), Quiet s → UpstreamNext s → requestFaults r s.transit = [] → r.kind = .write →
    ∃ t, exec (.upstreamRequest (some r)) s = .next t
      ∧ t.outside.sentDownstream = s.outside.sentDownstream ++ [r] ∧ t.outside.givenUpstream = s.outside.givenUpstream
      ∧ t.transit = { s.transit with
          turn := .upstream
          inFlight := s.transit.inFlight ++
            [{ origin := .upstream, kind := .write, disposition := .forwarded, abandoned := false, mask := none
               master := r.master, count := r.count }] }
      ∧ (∀ (c : Carrier) (block offset : Nat), offset = r.address.toNat % 64 → block = r.address.toNat - offset →
          s.transit.classify block = .descriptor c → s.transit.scheduler = some r.master →
          ∃ v w : State,
            (∀ b, offset = 0 → r.data[0]? = some b → v = s.handDescriptor c r.master (BitVec.ofNat 40 block) b)
            ∧ (offset ≠ 0 ∨ r.data = [] → v = s)
            ∧ (∀ b, offset ≤ 0x20 → r.data[(0x20 - offset) / 8]? = some b →
                w = v.handDescriptor c r.master (BitVec.ofNat 40 (block + 0x20)) b)
            ∧ (0x20 < offset ∨ r.data.length ≤ (0x20 - offset) / 8 → w = v)
            ∧ t.monitor = w.monitor ∧ t.report = w.report ∧ t.due = w.due
            ∧ OnlyChanges s t [.transit, .outputs, .monitor, .report, .due])
      ∧ ((∀ c : Carrier, s.transit.classify (blockOf r.address.toNat) = .descriptor c → s.transit.scheduler ≠ some r.master) →
          (s.transit.classify (blockOf r.address.toNat) = .policy → r.master ≠ s.transit.policyMaster) →
          OnlyChanges s t [.transit, .outputs])

/-- DOWNSTREAM_RESPONSE: it belongs to the head entry, which leaves; an upstream entry's is forwarded, blanked by its mask
where the status is OK, or discarded where it is abandoned; the part's own is consumed by the Report Unit; and the local
answers that come to the head are given within the event. An answer owed from before a power-on reset is discarded. That this
holds of ill-formed responses too is the model's choice (log entry 18). The lists of requests sent and answers given are the
model's own traces (log entry 12), and so is the count of answers owed (log entry 10). -/
def Obligations.DownstreamResponseResult : Prop :=
  ∀ (s : State) (status : ResponseStatus) (beats : List BeatData), Quiet s →
    (∀ e rest, s.transit.owedAnswers = 0 → s.transit.inFlight = e :: rest → e.disposition = .forwarded →
      ∃ t, exec (.downstreamResponse status beats) s = .next t
        ∧ t.transit = { s.transit with inFlight := (splitLocals rest).2 }
        ∧ (e.origin = .upstream → e.abandoned = false →
            t.outside.givenUpstream = s.outside.givenUpstream
              ++ [{ master := e.master, status := status
                    beats := if status = .ok then (match e.mask with
                      | some mask => List.zipWith blankBeat mask beats
                      | none => beats) else beats }]
              ++ ((splitLocals rest).1.filter (fun x => !x.abandoned)).map localAnswer
            ∧ t.report = s.report)
        ∧ (e.origin = .upstream → e.abandoned = true →
            t.outside.givenUpstream = s.outside.givenUpstream
              ++ ((splitLocals rest).1.filter (fun x => !x.abandoned)).map localAnswer
            ∧ t.report = s.report)
        ∧ (∀ form, e.origin = .own form →
            t.outside.givenUpstream = s.outside.givenUpstream
              ++ ((splitLocals rest).1.filter (fun x => !x.abandoned)).map localAnswer
            ∧ (form ≠ .ringRecord → t.report = s.report)
            ∧ ∀ ring, form = .ringRecord → s.report.ring = some ring →
                t.report = s.report.recordAnswered ring.capacity status)
        ∧ t.outside.sentDownstream = s.outside.sentDownstream
        ∧ OnlyChanges s t [.transit, .report, .outputs])
    ∧ (s.transit.owedAnswers ≠ 0 →
        exec (.downstreamResponse status beats) s =
          .next { s with transit := { s.transit with owedAnswers := s.transit.owedAnswers - 1 } })
    ∧ (s.transit.owedAnswers = 0 → s.transit.inFlight = [] → exec (.downstreamResponse status beats) s = .next s)

/-- A beat marked FIRST loses its RB, BEACON and URGENT fields and keeps every other bit; a beat marked LATER loses all. -/
def Obligations.BlankedBeats : Prop :=
  ∀ d : BeatData,
    (∀ i : Nat, i < 64 → (blankBeat .first d).getLsbD i = if 21 ≤ i ∧ i ≤ 31 then false else d.getLsbD i)
    ∧ descRb (blankBeat .first d) = 0 ∧ descBeacon (blankBeat .first d) = false ∧ descUrgent (blankBeat .first d) = false
    ∧ descFormat (blankBeat .first d) = descFormat d ∧ descTag (blankBeat .first d) = descTag d
    ∧ descCarrier (blankBeat .first d) = descCarrier d ∧ blankBeat .later d = 0

/-! ### Slot descriptors -/

/-- R62: the checks of a handed first beat in their order; the first that fails decides, and only a handing that passes them
all is held, its RB at most the carrier's RBmax, and may raise a demand, which stays outstanding until it is taken (the
model's choice, log entry 1). A slot is retired with the RB and BEACON of the entry of its tag, and empty where the list holds
none. -/
def Obligations.DescriptorChecks : Prop :=
  ∀ (s : State) (c : Carrier) (m : Master) (cell : Address) (b : Beat),
    (∀ slot : Slot, (∀ h ∈ s.held c, h.tag ≠ slot) → retiredSlot (s.held c) slot = { rb := 0, beacon := false })
    ∧ (∀ (before after : List Held) (h : Held), s.held c = before ++ h :: after → (∀ g ∈ before, g.tag ≠ h.tag) →
        retiredSlot (s.held c) h.tag = { rb := h.rb, beacon := h.beacon })
    ∧ s.handDescriptor c m cell b =
      (if b.enables.getLsbD 0 = true ∧ descFormat b.data ≠ 5 then s
      else if b.enables ≠ 0xFF then
        s.latchFault { kinds := [.partialDescriptor], master := m, kind := .write, address := cell, window := some c.val }
      else if descCarrier b.data ≠ c.val then
        s.latchFault { kinds := [.misfiledDescriptor], master := m, kind := .write, address := cell, window := some c.val }
      else if s.timer.state ≠ .locked then
        s.latchFault { kinds := [.unsyncedDescriptor], master := m, kind := .write, address := cell, window := some c.val }
      else if leadDistance (descTag b.data) s.timer.slot = 0 ∨ 2048 ≤ leadDistance (descTag b.data) s.timer.slot then
        s.latchFault { kinds := [.lateDescriptor], master := m, kind := .write, address := cell, window := some c.val }
      else if 5 ≤ leadDistance (descTag b.data) s.timer.slot then
        s.latchFault { kinds := [.earlyDescriptor], master := m, kind := .write, address := cell, window := some c.val }
      else
        let h : Held := { tag := descTag b.data, rb := min (descRb b.data) (s.carrier c).values.rbMax
                          beacon := descBeacon b.data }
        let t := s.setHeld c (holdIn s.timer.slot h (s.held c))
        if ((s.carrier c).state = .deep ∨ (s.carrier c).state = .queued) ∧ h.rb ≠ 0
        then t.addDue (.demand c (descUrgent b.data)) else t)

/-- Holding a timely descriptor in a list in order: the entry of its tag is replaced or a new one takes its place by lead
distance, the other entries are kept, and the list stays in order with at most 4 entries. -/
def Obligations.HoldingKeepsOrder : Prop :=
  ∀ (slot : Slot) (h : Held) (l : List Held), leadsAscend slot 0 l → 1 ≤ leadDistance h.tag slot → leadDistance h.tag slot ≤ 4 →
    leadsAscend slot 0 (holdIn slot h l) ∧ (holdIn slot h l).length ≤ 4
    ∧ ∀ g : Held, g ∈ holdIn slot h l ↔ g = h ∨ (g ∈ l ∧ g.tag ≠ h.tag)

/-! ### Load and verdicts -/

/-- The filter and the utilisation keep their ranges: u within 0 to 1000 and the new L between the old L and 16 u, so within
0 to 16000. Every step keeps L within 0 to 16000 and last u within 0 to 1000, at every carrier and at every moment, from a
state whose sums fit: at most RBmax has been summed for each measured slot. The sums fit at reset; every command that makes no
tick keeps them so; and so does a tick, locked or not, with no event outstanding and the parameters of the applied policy in
force, the RB of each slot retired being at most RBmax by the law of the held lists. -/
def Obligations.FilterKeepsRange : Prop :=
  (∀ (load sum n rbMax k : Nat), load ≤ 16000 → sum ≤ n * rbMax → 0 < n → 0 < rbMax →
    utilisation sum n rbMax ≤ 1000
    ∧ ((filterLoad load (utilisation sum n rbMax) k : Nat) : Int) =
        load + (16 * (utilisation sum n rbMax : Int) - load).tdiv (2 ^ k)
    ∧ min load (16 * utilisation sum n rbMax) ≤ filterLoad load (utilisation sum n rbMax) k
    ∧ filterLoad load (utilisation sum n rbMax) k ≤ max load (16 * utilisation sum n rbMax)
    ∧ filterLoad load (utilisation sum n rbMax) k ≤ 16000)
  ∧ (LoadsInRange State.reset ∧ SumsFit State.reset ∧ ParamsInForce State.reset)
  ∧ (∀ s t : State, LoadsInRange s → SumsFit s → step s = .next t → LoadsInRange t)
  ∧ (∀ (s t : State) (i : Instr), SleepLaw s → SumsFit s → makesTick i = false → exec i s = .next t → SumsFit t)
  ∧ ∀ (s t : State) (order : TickOrder), SleepLaw s → HeldLaw s → ParamsInForce s → s.due = [] → SumsFit s →
      (∀ mark : Bool, exec (.externalTick mark order) s = .next t → SumsFit t)
      ∧ (exec (.localTick order) s = .next t → SumsFit t)

/-- WINDOW_BOUNDARY: each evaluated carrier is measured by the parameters of the window that ends and has its residency
latched and its accumulators set to 0; the list handed on is that of the verdict steps on the figures so left, with the clean
flag of the boundary; the window is recorded as evaluated and pending parameters are installed. The event taken is the one
outstanding (the model's choice, log entry 1). -/
def Obligations.BoundaryMeasures : Prop :=
  ∀ (s : State) (p : WindowParams) (window : Word32) (clean locked : Bool) (rest : List Due), Quiet s →
    s.evaluator.params = some p → firstDue isBoundary s.due = some (.boundary window clean locked, rest) →
    ∃ t, exec .windowBoundary s = .next t
      ∧ (∀ c : Carrier, evaluated p s c = true →
          t.figures c =
            { windowSum := 0, measured := 0, lightSlots := 0, offSlots := 0
              latchedLight := (s.figures c).lightSlots, latchedOff := (s.figures c).offSlots
              lastU := if (s.carrier c).state.serving = true ∧ (p.w + 1) / 2 ≤ (s.figures c).measured
                then 1000 * (s.figures c).windowSum / ((s.figures c).measured * (p.entries.get c).rbMax)
                else (s.figures c).lastU
              load := if (s.carrier c).state.serving = true ∧ (p.w + 1) / 2 ≤ (s.figures c).measured
                then filterLoad (s.figures c).load
                  (1000 * (s.figures c).windowSum / ((s.figures c).measured * (p.entries.get c).rbMax)) p.k
                else (s.figures c).load })
      ∧ (∀ c : Carrier, evaluated p s c = false → t.figures c = s.figures c)
      ∧ t.evaluator.lastEvaluated = window ∧ t.evaluator.pendingParams = none
      ∧ t.evaluator.params = some (s.evaluator.pendingParams.getD p)
      ∧ t.timer = { s.timer with nightHold := none }
      ∧ t.due = rest ++ [.verdicts true (verdictSteps p (measureAll p s) clean)]
      ∧ (∀ c : Carrier, (measureAll p s).figures c = t.figures c) ∧ OnlyChanges s (measureAll p s) [.evaluator]
      ∧ OnlyChanges s t [.evaluator, .timer, .report, .due]

/-- The verdicts of a boundary, when each is issued. Only evaluated capacity carriers get one, at most one each. Outside the
night every sleeper gets its night-end verdict, in ascending carrier number, and there is no other. In the night: in a sector
whose anchor in ON is overloaded every drain is cancelled and one sleeper woken, the lowest LIGHT carrier or else the lowest
DEEP one; a LIGHT carrier not so woken is woken for load; and in a clean window alone LIGHT carriers are deepened and the
carriers admitted in their sectors drained. The verdicts stand in the order of the steps. The night is that of the values in
force, or, where an application has been taken first at the boundary, of the night window and the heartbeat held back at it (the
model's inference and choice, log entries 22 and 38). -/
def Obligations.VerdictListShape : Prop :=
  ∀ (s : State) (p : WindowParams) (clean : Bool),
    (∀ c : Carrier, evalCapacity p s c = true ↔ (p.entries.get c).present = true ∧ (s.carrier c).values.present = true
      ∧ (p.entries.get c).role = .capacity)
    ∧ (∀ (k : Nat) (a : Carrier), anchorInOn p s k = some a → (p.entries.get a).present = true
        ∧ (s.carrier a).values.present = true ∧ (p.entries.get a).role = .anchor ∧ (p.entries.get a).sector = k
        ∧ (s.carrier a).state = .on)
    ∧ (∀ k : Nat, overloaded p s k = true ↔ ∃ a l, anchorInOn p s k = some a ∧ (p.entries.get a).limits = some l
        ∧ 16 * l.cOvl < (s.figures a).load)
    ∧ (s.timer.nightHold = none → (s.nightPredicate = true ↔
        s.loader.applied.isSome = true ∧ s.timer.clockSet = true ∧ s.loader.heartbeat = .alive
        ∧ ((s.globals.nightStart ≤ s.timer.seconds ∧ s.timer.seconds < s.globals.nightEnd)
          ∨ (s.globals.nightEnd < s.globals.nightStart
            ∧ (s.globals.nightStart ≤ s.timer.seconds ∨ s.timer.seconds < s.globals.nightEnd)))))
    ∧ (∀ h, s.timer.nightHold = some h → (s.nightPredicate = true ↔
        s.loader.applied.isSome = true ∧ s.timer.clockSet = true ∧ h.heartbeat = .alive
        ∧ ((h.nightStart ≤ s.timer.seconds ∧ s.timer.seconds < h.nightEnd)
          ∨ (h.nightEnd < h.nightStart ∧ (h.nightStart ≤ s.timer.seconds ∨ s.timer.seconds < h.nightEnd)))))
    ∧ (∀ v ∈ verdictSteps p s clean, evalCapacity p s v.carrier = true)
    ∧ ((verdictSteps p s clean).map Verdict.carrier).Nodup
    ∧ (clean = false ∨ s.nightPredicate = false → ∀ v ∈ verdictSteps p s clean, v.kind ≠ .drain ∧ v.kind ≠ .deepen)
    ∧ (s.nightPredicate = false →
        (verdictSteps p s clean).map Verdict.carrier =
          carriers.filter (fun c => evalCapacity p s c && (s.carrier c).state.sleeping)
        ∧ ∀ v ∈ verdictSteps p s clean, v.cause = .nightEnd ∧ v.cls = .routine
          ∧ ((s.carrier v.carrier).state = .draining → v.kind = .cancelDrain)
          ∧ ((s.carrier v.carrier).state = .light → v.kind = .wakeLight)
          ∧ ((s.carrier v.carrier).state = .deep → v.kind = .wakeDeep))
    ∧ (s.nightPredicate = true →
        (∀ v ∈ verdictSteps p s clean, VerdictDue p s clean v)
        ∧ (∀ v : Verdict, VerdictDue p s clean v → v ∈ verdictSteps p s clean)
        ∧ (verdictSteps p s clean).Pairwise (fun v w => rankOfVerdict p v < rankOfVerdict p w))

/-- The admission of drain candidates in a sector, after the verdicts `vs`. Without an anchor in ON, and in an overloaded
sector, none is admitted. Else the candidates are taken in ascending carrier number from a projection of the anchor's load and
the moved loads of the sector's draining carriers; a candidate is admitted exactly where it fits within 16 × C_adm beside
those admitted before it, so that the projected load of the anchor, with all that are admitted, stays within that limit. -/
def Obligations.AdmissionWithinLimit : Prop :=
  ∀ (p : WindowParams) (s : State) (vs : List Verdict) (k : Nat),
    (anchorInOn p s k = none ∨ overloaded p s k = true → drainSector p s vs k = [])
    ∧ ∀ (a : Carrier) (l : AnchorLimits) (start : Nat), anchorInOn p s k = some a → (p.entries.get a).limits = some l →
      overloaded p s k = false →
      start = (s.figures a).load
        + ((carriers.filter (fun x => evalCapacity p s x && (p.entries.get x).sector == k && (s.carrier x).state == .draining)).map
            (fun x => (s.figures x).load * (p.entries.get x).rbMax / (p.entries.get a).rbMax)).sum →
      (∀ v ∈ drainSector p s vs k, v.kind = .drain ∧ v.cause = .lowLoad ∧ DrainCandidate p s vs k v.carrier)
      ∧ (drainSector p s vs k).Pairwise (fun v w => v.carrier < w.carrier)
      ∧ (drainSector p s vs k ≠ [] →
          start + ((drainSector p s vs k).map (fun v => moved p s a v.carrier)).sum ≤ 16 * l.cAdm)
      ∧ ∀ c : Carrier, DrainCandidate p s vs k c →
          ((∃ v ∈ drainSector p s vs k, v.carrier = c) ↔
            start + (((drainSector p s vs k).filter (fun v => decide (v.carrier < c))).map (fun v => moved p s a v.carrier)).sum
              + (s.figures c).load * (p.entries.get c).rbMax / (p.entries.get a).rbMax ≤ 16 * l.cAdm)

/-- VERDICT_LIST of one verdict: it is applied when the carrier is in the state named and the further conditions hold, and
dropped without a record otherwise. The further conditions of DRAIN and DEEPEN are that the anchor of the carrier's sector is in
ON and that its keep-awake bit is 0. That DRAIN and DEEPEN are dropped also for a carrier that is no present capacity carrier is
the model's inference, not R24's table (log entry 14). The event taken is the one outstanding (the model's choice, log entry
1). A list of several verdicts is VerdictListParts'. -/
def Obligations.VerdictTable : Prop :=
  (∀ (s : State) (c : Carrier), s.maySleep c = true ↔
    ((s.carrier c).values.present = true ∧ (s.carrier c).values.role = .capacity)
    ∧ (∃ a : Carrier, (s.carrier a).values.present = true ∧ (s.carrier a).values.role = .anchor
        ∧ (s.carrier a).values.sector = (s.carrier c).values.sector ∧ (s.carrier a).state = .on)
    ∧ (s.loader.mirror.read (0x010 + c.val / 8)).getLsbD (c.val % 8) = false)
  ∧ ∀ (s : State) (v : Verdict) (rest : List Due), Quiet s →
    firstDue isVerdicts s.due = some (.verdicts false [v], rest) →
    (v.kind = .drain → (s.carrier v.carrier).state = .on → s.maySleep v.carrier = true →
      ∃ t, exec (.verdictList none) s = .next t
        ∧ t.carrier v.carrier = { s.carrier v.carrier with state := .draining, emptyRun := 0, drainElapsed := 0 }
        ∧ OthersKept s t v.carrier ∧ Handed s t (.stateChange v.carrier .on .draining .lowLoad none) ∧ t.due = rest
        ∧ OnlyChanges s t [.controller, .report, .due])
    ∧ (v.kind = .deepen → (s.carrier v.carrier).state = .light → s.maySleep v.carrier = true →
      ∃ t, exec (.verdictList none) s = .next t
        ∧ t.carrier v.carrier = { s.carrier v.carrier with state := .deep, sleepCount := some 0 }
        ∧ OthersKept s t v.carrier ∧ Handed s t (.stateChange v.carrier .light .deep .deepen none) ∧ t.due = rest
        ∧ OnlyChanges s t [.controller, .report, .due])
    ∧ (v.kind = .cancelDrain ∧ (s.carrier v.carrier).state = .draining
        ∨ v.kind = .wakeLight ∧ (s.carrier v.carrier).state = .light →
      ∃ t, exec (.verdictList none) s = .next t
        ∧ t.carrier v.carrier = { s.carrier v.carrier with state := .on, minOnCount := 0 }
        ∧ OthersKept s t v.carrier
        ∧ Handed s t (.stateChange v.carrier (s.carrier v.carrier).state .on v.cause none) ∧ t.due = rest
        ∧ OnlyChanges s t [.controller, .report, .due])
    ∧ (v.kind = .wakeDeep → (s.carrier v.carrier).state = .deep →
      ∃ u, exec (.verdictList none) s = .next u.attempt
        ∧ u.carrier v.carrier = { s.carrier v.carrier with state := .queued, queuedClass := some v.cls }
        ∧ OthersKept s u v.carrier
        ∧ u.arbiter = { s.arbiter with
            ordinal := s.arbiter.ordinal + 1
            queue := placeEntry { carrier := v.carrier, cls := v.cls, ordinal := s.arbiter.ordinal + 1 } s.arbiter.queue }
        ∧ Handed s u (.stateChange v.carrier .deep .queued v.cause (some v.cls)) ∧ u.due = rest
        ∧ OnlyChanges s u [.controller, .arbiter, .report, .due])
    ∧ ((v.kind = .drain ∧ ((s.carrier v.carrier).state ≠ .on ∨ s.maySleep v.carrier = false)
        ∨ v.kind = .deepen ∧ ((s.carrier v.carrier).state ≠ .light ∨ s.maySleep v.carrier = false)
        ∨ v.kind = .cancelDrain ∧ (s.carrier v.carrier).state ≠ .draining
        ∨ v.kind = .wakeLight ∧ (s.carrier v.carrier).state ≠ .light
        ∨ v.kind = .wakeDeep ∧ (s.carrier v.carrier).state ≠ .deep) →
      exec (.verdictList none) s = .next { s with due := rest })

/-- VERDICT_LIST of a list: of a fresh one every present capacity carrier's drain backoff that is not 0 is first lowered by
one; then the verdicts are applied in order, each as the one of a list of its own would be. Where only the first verdicts of a
list are taken, the rest stays outstanding (the model's choice, log entry 17). The event taken is the one outstanding (the
model's choice, log entry 1). -/
def Obligations.VerdictListParts : Prop :=
  (∀ (s : State) (fresh : Bool) (list : List Verdict) (rest : List Due), Quiet s →
    firstDue isVerdicts s.due = some (.verdicts fresh list, rest) →
    ∃ u,
      (∀ c : Carrier, u.carrier c =
        if fresh = true ∧ s.isCapacity c = true then { s.carrier c with backoff := (s.carrier c).backoff - 1 } else s.carrier c)
      ∧ u.due = rest ∧ OnlyChanges s u [.controller, .due]
      ∧ exec (.verdictList none) s = .next (list.foldl State.applyVerdict u)
      ∧ ∀ n : Nat,
          (n < list.length → exec (.verdictList (some n)) s =
            .next ((list.take n).foldl State.applyVerdict { u with due := .verdicts false (list.drop n) :: rest }))
          ∧ (list.length ≤ n → exec (.verdictList (some n)) s = exec (.verdictList none) s))
  ∧ ∀ (s : State) (v : Verdict), Quiet s →
      exec (.verdictList none) { s with due := .verdicts false [v] :: s.due } = .next (s.applyVerdict v)

/-! ### The Warm-up Arbiter -/

/-- The grant rule: an attempt grants the first ready entry of the queue if its weight beside those charged fits the budget
limit and the spacing timer is expired, and nothing otherwise; attempts go on until one grants nothing; and no attempt brings
the budget in use above the limit. An entry is ready if it is URGENT, its carrier has no sleep counter, or that counter has
reached minSleep. -/
def Obligations.GrantRule : Prop :=
  ∀ s : State,
    (∀ e : WakeEntry, s.entryReady e = true ↔ e.cls = .urgent ∨ (s.carrier e.carrier).sleepCount = none
      ∨ ∃ n, (s.carrier e.carrier).sleepCount = some n ∧ (s.carrier e.carrier).values.minSleep ≤ n)
    ∧ (∀ e : WakeEntry, s.grantable e = true ↔
        (s.arbiter.charged.map Prod.snd).sum + (s.carrier e.carrier).values.weight ≤ s.globals.budgetLimit
        ∧ s.arbiter.spacing = 0)
    ∧ (s.candidate = none ↔ ∀ e ∈ s.arbiter.queue, s.entryReady e = false)
    ∧ (∀ e, s.candidate = some e ↔ ∃ before after, s.arbiter.queue = before ++ e :: after ∧ s.entryReady e = true
        ∧ ∀ f ∈ before, s.entryReady f = false)
    ∧ (s.candidate = none → s.attempt = s)
    ∧ (∀ e, s.candidate = some e → s.grantable e = false → s.attempt = s)
    ∧ (∀ e, s.candidate = some e → s.grantable e = true → 0 < s.globals.spacing → s.attempt = s.makeGrant e)
    ∧ (∀ e, s.candidate = some e → s.grantable e = true → s.attempt = (s.makeGrant e).attempt)
    ∧ (∀ e, s.attempt.candidate = some e → s.attempt.grantable e = false)
    ∧ (s.attempt = s ∨ s.attempt.arbiter.budgetInUse ≤ s.globals.budgetLimit)

/-- SPACING_EXPIRY and READY_NOTICE each make an attempt; a notice for a carrier without an entry is ignored. A grant takes
the entry from the queue, charges the carrier's weight, sets the spacing timer and is handed to the Carrier Controller. The
event taken is the one outstanding (the model's choice, log entry 1). -/
def Obligations.ExpiryAndNoticeAttempt : Prop :=
  ∀ (s : State) (rest : List Due), Quiet s →
    (firstDue (fun d => d == .spacingExpiry) s.due = some (.spacingExpiry, rest) →
      exec .spacingExpiry s = .next (State.attempt { s with due := rest }))
    ∧ (∀ c, firstDue (fun d => d == .readyNotice c) s.due = some (.readyNotice c, rest) →
        ((∃ e ∈ s.arbiter.queue, e.carrier = c) → exec (.readyNotice c) s = .next (State.attempt { s with due := rest }))
        ∧ ((∀ e ∈ s.arbiter.queue, e.carrier ≠ c) → exec (.readyNotice c) s = .next { s with due := rest }))
    ∧ ∀ e, s.makeGrant e =
        { s with
          arbiter := { queue := s.arbiter.queue.erase e
                       charged := s.arbiter.charged ++ [(e.carrier, (s.carrier e.carrier).values.weight)]
                       spacing := s.globals.spacing, ordinal := s.arbiter.ordinal }
          due := s.due ++ [.grant e.carrier] }

/-! ### The policy region -/

/-- A merge replaces exactly the bytes whose enables are set. The live words, the globals and the carrier entries are read
from the mirror at their offsets and widths, least significant byte first, the admission thresholds for an anchor alone. That
the entry of a carrier marked not present reads as cleared is the model's choice (log entry 31). -/
def Obligations.MergeByBytes : Prop :=
  (∀ (m : Memory) (a : Nat) (b : Beat), m.wf = true →
    ∀ x : Nat, (mergeBeat m a b).read x =
      if a ≤ x ∧ x < a + 8 ∧ b.enables.getLsbD (x - a) = true then beatByte b.data (x - a) else m.read x)
  ∧ ∀ m : Memory, RegionRead m

/-- POLICY_WRITE: the beats are merged into the mirror and the write goes to memory. Where it touches no live word, nothing
else changes. Where it touches several, the write is merged whole and then each word acts on the merged value, in ascending
order: the heartbeat, the consumer index, the clock-set word and the keep-awake mask, so that a HEARTBEAT record comes before
the STATE records of the carriers woken, a CLOCK_RANGE fault after a CONSUMER_RANGE fault, and the STATE records carry the
seconds set. The write is the policy master's request (the model's choice, log entry 9), and the list of requests sent is the
model's own trace (log entry 12). -/
def Obligations.PolicyWriteMerges : Prop :=
  ∀ (s : State) (beat : BitVec 8) (data : List Beat), Quiet s → UpstreamNext s → PolicyOpen s (8 * beat.toNat) →
    data ≠ [] → 8 * beat.toNat % 64 + 8 * data.length ≤ 64 →
    ∃ t, exec (.policyWrite beat data) s = .next t
      ∧ t.loader.mirror = mergeBeats s.loader.mirror (8 * beat.toNat) data
      ∧ t.outside.sentDownstream = s.outside.sentDownstream ++ [s.policyRequest (8 * beat.toNat) data]
      ∧ t.outside.givenUpstream = s.outside.givenUpstream
      ∧ t.transit = { s.transit with
          turn := .upstream
          inFlight := s.transit.inFlight ++
            [{ origin := .upstream, kind := .write, disposition := .forwarded, abandoned := false, mask := none
               master := s.transit.policyMaster, count := data.length }] }
      ∧ (touches (8 * beat.toNat) data 0x004 4 = false → touches (8 * beat.toNat) data 0x008 2 = false →
          touches (8 * beat.toNat) data 0x00C 4 = false → touches (8 * beat.toNat) data 0x010 3 = false →
          t.loader = { s.loader with mirror := t.loader.mirror } ∧ OnlyChanges s t [.loader, .transit, .outputs])
      ∧ LiveWordsActed s t (touches (8 * beat.toNat) data 0x004 4) (touches (8 * beat.toNat) data 0x008 2)
          (touches (8 * beat.toNat) data 0x00C 4) (touches (8 * beat.toNat) data 0x010 3)
          (BitVec.ofNat 40 (s.transit.policyBase + 8 * beat.toNat))
      ∧ OnlyChanges s t [.loader, .timer, .report, .controller, .arbiter, .due, .transit, .outputs]

/-- HEARTBEAT_WRITE with some byte enabled: with a heartbeat code in force the timer restarts and the state is ALIVE, with a
record where it was LAPSED; before the first application or at code 0 the write only merges. The write is the policy
master's request (the model's choice, log entry 9). -/
def Obligations.HeartbeatWriteResult : Prop :=
  ∀ (s : State) (value : BitVec 32) (enables : BitVec 4), Quiet s → UpstreamNext s → PolicyOpen s 0x000 → enables ≠ 0 →
    ∃ t, exec (.heartbeatWrite value enables) s = .next t
      ∧ (s.loader.applied.isSome = true → s.globals.heartbeatCode ≠ 0 →
          t.loader = { s.loader with
            mirror := mergeBeats s.loader.mirror 0x000 [wordBeat 4 value.toNat enables.toNat]
            heartbeat := .alive, heartbeatTimer := some 0 }
          ∧ (s.loader.heartbeat = .alive → t.report = s.report)
          ∧ (s.loader.heartbeat = .lapsed → Handed s t (.heartbeat .alive)))
      ∧ (s.loader.applied = none ∨ s.globals.heartbeatCode = 0 →
          t.loader = { s.loader with mirror := mergeBeats s.loader.mirror 0x000 [wordBeat 4 value.toNat enables.toNat] }
          ∧ t.report = s.report)
      ∧ OnlyChanges s t [.loader, .report, .transit, .outputs]

/-- CONSUMER_INDEX_WRITE with some byte enabled: once a generation is applied the merged index is accepted where the
producer is ahead of it by at most the ring capacity, and is ignored with fault CONSUMER_RANGE otherwise; before that it
only merges. The write is the policy master's request (the model's choice, log entry 9). -/
def Obligations.ConsumerIndexWriteResult : Prop :=
  ∀ (s : State) (value : BitVec 16) (enables : BitVec 2), Quiet s → UpstreamNext s → PolicyOpen s 0x008 → enables ≠ 0 →
    ∃ t, exec (.consumerIndexWrite value enables) s = .next t
      ∧ t.loader = { s.loader with mirror := mergeBeats s.loader.mirror 0x008 [wordBeat 0 value.toNat enables.toNat] }
      ∧ (∀ p, s.loader.applied = some p →
          (s.report.producer - mirrorConsumer t.loader.mirror).toNat ≤ p.globals.ringCapacity →
          t.report = { s.report with consumer := mirrorConsumer t.loader.mirror })
      ∧ (∀ p, s.loader.applied = some p →
          p.globals.ringCapacity < (s.report.producer - mirrorConsumer t.loader.mirror).toNat →
          t.report = { s.report with latch := some {
              fault := { kinds := [.consumerRange], master := s.transit.policyMaster, kind := .write,
                         address := BitVec.ofNat 40 (s.transit.policyBase + 8), window := some 24 },
              more := s.report.latch.isSome } })
      ∧ (s.loader.applied = none → t.report = s.report)
      ∧ OnlyChanges s t [.loader, .report, .transit, .outputs]

/-- CLOCK_SET_WRITE with some byte enabled: the merged value sets the clock, unsets it at 0xFFFFFFFF, and is refused with
fault CLOCK_RANGE otherwise. The write is the policy master's request (the model's choice, log entry 9). -/
def Obligations.ClockSetWriteResult : Prop :=
  ∀ (s : State) (value : BitVec 32) (enables : BitVec 4), Quiet s → UpstreamNext s → PolicyOpen s 0x008 → enables ≠ 0 →
    ∃ t, exec (.clockSetWrite value enables) s = .next t
      ∧ t.loader = { s.loader with mirror := mergeBeats s.loader.mirror 0x008 [wordBeat 4 value.toNat enables.toNat] }
      ∧ (mirrorClockSet t.loader.mirror ≤ 86399 →
          t.timer = { s.timer with seconds := mirrorClockSet t.loader.mirror, clockSet := true, subSecond := 0 }
          ∧ t.report = s.report)
      ∧ (mirrorClockSet t.loader.mirror = 0xFFFFFFFF →
          t.timer = { s.timer with seconds := 0, clockSet := false, subSecond := 0 } ∧ t.report = s.report)
      ∧ (86399 < mirrorClockSet t.loader.mirror → mirrorClockSet t.loader.mirror ≠ 0xFFFFFFFF →
          t.timer = s.timer
          ∧ t.report = { s.report with latch := some {
              fault := { kinds := [.clockRange], master := s.transit.policyMaster, kind := .write,
                         address := BitVec.ofNat 40 (s.transit.policyBase + 8), window := some 24 },
              more := s.report.latch.isSome } })
      ∧ OnlyChanges s t [.loader, .timer, .report, .transit, .outputs]

/-- KEEP_AWAKE_WRITE with some byte enabled: every present capacity carrier whose bit went from 0 to 1 is woken with class
ROUTINE, and no other carrier is touched. The STATE records follow in ascending carrier number with cause KEEP_AWAKE, and the
carriers in DEEP get entries with ordinals in that order. The write is the policy master's request (the model's choice, log
entry 9). -/
def Obligations.KeepAwakeWriteResult : Prop :=
  ∀ (s : State) (value : BitVec 24) (enables : BitVec 3), Quiet s → UpstreamNext s → PolicyOpen s 0x010 → enables ≠ 0 →
    ∃ t, exec (.keepAwakeWrite value enables) s = .next t
      ∧ t.loader = { s.loader with mirror := mergeBeats s.loader.mirror 0x010 [wordBeat 0 value.toNat enables.toNat] }
      ∧ (∀ c : Carrier, t.carrier c =
          if s.isCapacity c = true ∧ s.keepAwake c = false ∧ t.keepAwake c = true then (s.carrier c).woken .routine
          else s.carrier c)
      ∧ (∀ rose : Carrier → Bool, rose = (fun c => s.isCapacity c && !s.keepAwake c && t.keepAwake c) →
          t.report = s.report.handAll s (wakeBodies s rose .keepAwake .routine) ∧ EntriesTaken s t s.due [] (deepOf s rose))
      ∧ OnlyChanges s t [.loader, .controller, .arbiter, .due, .report, .transit, .outputs]

/-- R140 to R143: a generation is staged where it is not 0 and is neither the last applied nor the last refused; validation
gives the first reason, in the order of the eight, that refuses, with its index, the busy checks included, and passes where none
does. GENERATION_APPLICATION where nothing is staged, or where a reason refuses: nothing changes but the last refused generation
and its POLICY_REFUSED record. The event taken is the one outstanding (the model's choice, log entry 1). -/
def Obligations.GenerationNotApplied : Prop :=
  (∀ l : PolicyLoader, l.staged = true ↔
    mirrorGeneration l.mirror ≠ 0 ∧ mirrorGeneration l.mirror ≠ l.lastApplied ∧ mirrorGeneration l.mirror ≠ l.lastRefused)
  ∧ (∀ (s : State) (p : Policy),
    (∀ (reason : RefusalReason) (i : Nat), validate s p = some (reason, i) ↔
        Refuses s p i reason ∧ ∀ (earlier : RefusalReason) (j : Nat), Refuses s p j earlier → reason.order ≤ earlier.order)
    ∧ (validate s p = none ↔ ∀ (reason : RefusalReason) (i : Nat), ¬Refuses s p i reason))
  ∧ ∀ (s : State) (rest : List Due), Quiet s →
    firstDue (fun d => d == .generation) s.due = some (.generation, rest) →
    (s.loader.staged = false → exec .generationApplication s = .next { s with due := rest })
    ∧ (∀ reason index, s.loader.staged = true →
        validate s (readPolicy s.loader.mirror) = some (reason, index) →
        ∃ t, exec .generationApplication s = .next t
          ∧ t.loader = { s.loader with lastRefused := mirrorGeneration s.loader.mirror }
          ∧ Handed s t (.policyRefused (mirrorGeneration s.loader.mirror) reason index)
          ∧ t.due = rest ∧ OnlyChanges s t [.loader, .report, .due])

/-- GENERATION_APPLICATION of a staged generation that passes validation, block by block: the applied policy and its clamped
values everywhere they are held; the window table and masters; the ring, re-shaped or kept, and every record of the
application in order, the POLICY_APPLIED record first; the held lists; the window parameters and the night values of the
window that ends; the carriers that become present, are withdrawn, are queued again, or lose a ready line newly sensed, an
anchor with its sector, and the classes of those queued; the Warm-up Arbiter's entries, grants and attempt; the Slot Timer;
and the heartbeat. How the policy lies in the mirror is MergeByBytes'. The records are made in window 1 at the first
application (log entry 16), the clamped names are told from the values written and applied (log entry 15), the entry of a
carrier that is not present is stored cleared (log entry 31), and the night values of a boundary not yet taken are kept beside
the new (log entry 22). The event taken is the one outstanding (the model's choice, log entry 1). -/
def Obligations.GenerationApplied : Prop :=
  ∀ (s : State) (rest : List Due) (p : Policy), Quiet s →
    firstDue (fun d => d == .generation) s.due = some (.generation, rest) →
    s.loader.staged = true → validate s (readPolicy s.loader.mirror) = none → p = clampPolicy (readPolicy s.loader.mirror) →
    ∃ t, exec .generationApplication s = .next t
      ∧ t.loader.applied = some p ∧ t.loader.lastApplied = mirrorGeneration s.loader.mirror
      ∧ t.loader.mirror = s.loader.mirror ∧ t.loader.lastRefused = s.loader.lastRefused
      ∧ t.transit = { s.transit with
          windows := windowTable s.transit.policyBase p
          scheduler := some p.globals.scheduler, fronthaul := some p.globals.fronthaul }
      ∧ RingApplied s t p ∧ HeldApplied s t p ∧ ParametersApplied s t p ∧ CarriersApplied s t p ∧ TimerApplied s t rest p
      ∧ HeartbeatApplied s t p
      ∧ WindowsApplied s t p ∧ RecordsApplied s t p ∧ ArbiterApplied s t rest p ∧ ClassesApplied s t p
      ∧ OnlyChanges s t inner

/-- After the clamps every clamped value lies in its range, and one that lay in its range is kept; every carrier has
T_deep ≤ T_sleep < T_wake and every anchor C_adm < C_ovl, all within 1000, each moved by the ordering steps alone (R86); and the
budget limit is the larger of its value brought into 1 to 16 and the largest clamped weight of a present carrier. -/
def Obligations.ClampsInRange : Prop :=
  (∀ v : CarrierValues, v.present = true →
    (clampEntry v).tDeep ≤ (clampEntry v).tSleep ∧ (clampEntry v).tSleep < (clampEntry v).tWake ∧ (clampEntry v).tWake ≤ 1000
    ∧ (v.tDeep ≤ v.tSleep → v.tSleep < v.tWake → v.tWake ≤ 1000 →
        (clampEntry v).tDeep = v.tDeep ∧ (clampEntry v).tSleep = v.tSleep ∧ (clampEntry v).tWake = v.tWake)
    ∧ (∀ sleep wake, sleep = min v.tSleep 1000 → wake = min v.tWake 1000 →
        (sleep < wake → (clampEntry v).tSleep = sleep ∧ (clampEntry v).tWake = wake)
        ∧ (wake ≤ sleep → sleep < 1000 → (clampEntry v).tSleep = sleep ∧ (clampEntry v).tWake = sleep + 1)
        ∧ (wake ≤ sleep → sleep = 1000 → (clampEntry v).tSleep = 999 ∧ (clampEntry v).tWake = 1000)
        ∧ (clampEntry v).tDeep = min v.tDeep (clampEntry v).tSleep)
    ∧ (∀ l adm ovl, v.limits = some l → adm = min l.cAdm 1000 → ovl = min l.cOvl 1000 →
        (adm < ovl → (clampEntry v).limits = some { cAdm := adm, cOvl := ovl })
        ∧ (ovl ≤ adm → adm < 1000 → (clampEntry v).limits = some { cAdm := adm, cOvl := adm + 1 })
        ∧ (ovl ≤ adm → adm = 1000 → (clampEntry v).limits = some { cAdm := 999, cOvl := 1000 }))
    ∧ (v.limits = none → (clampEntry v).limits = none)
    ∧ (∀ l ∈ (clampEntry v).limits, l.cAdm < l.cOvl ∧ l.cOvl ≤ 1000)
    ∧ (∀ l ∈ v.limits, l.cAdm < l.cOvl → l.cOvl ≤ 1000 → (clampEntry v).limits = some l)
    ∧ Clamped 24 275 v.rbMax (clampEntry v).rbMax ∧ Clamped 1 4 v.weight (clampEntry v).weight
    ∧ Clamped 10 4000 v.warmupTimeout (clampEntry v).warmupTimeout)
  ∧ ∀ (p : Policy) (before after : Globals), before = p.globals → after = (clampPolicy p).globals →
    Clamped 0 3 before.slotCode after.slotCode ∧ Clamped 500 65535 before.w after.w ∧ Clamped 0 4 before.k after.k
    ∧ Clamped 0 15 before.heartbeatCode after.heartbeatCode
    ∧ Clamped 0 86399 before.nightStart after.nightStart ∧ Clamped 0 86399 before.nightEnd after.nightEnd
    ∧ Clamped 1 255 before.drainConfirm after.drainConfirm ∧ Clamped 100 65535 before.drainLimit after.drainLimit
    ∧ Clamped 20 1280 before.beaconDeadline after.beaconDeadline
    ∧ 1 ≤ after.budgetLimit ∧ after.budgetLimit ≤ 16
    ∧ (∀ c : Carrier, ((clampPolicy p).entries.get c).present = true →
        ((clampPolicy p).entries.get c).weight ≤ after.budgetLimit)
    ∧ (1 ≤ before.budgetLimit → before.budgetLimit ≤ 16 →
        (∀ c : Carrier, ((clampPolicy p).entries.get c).present = true →
          ((clampPolicy p).entries.get c).weight ≤ before.budgetLimit) →
        after.budgetLimit = before.budgetLimit)
    ∧ max 1 (min 16 before.budgetLimit) ≤ after.budgetLimit
    ∧ (after.budgetLimit = max 1 (min 16 before.budgetLimit)
      ∨ ∃ c : Carrier, ((clampPolicy p).entries.get c).present = true
        ∧ after.budgetLimit = ((clampPolicy p).entries.get c).weight)
    ∧ after.scheduler = before.scheduler ∧ after.fronthaul = before.fronthaul ∧ after.spacing = before.spacing
    ∧ after.attention = before.attention ∧ after.ringCapacity = before.ringCapacity
    ∧ after.drainBackoff = before.drainBackoff ∧ after.reportSizeCode = before.reportSizeCode
    ∧ after.reportBase = before.reportBase

/-- No two windows of a generation that passes validation share a byte, the policy region among them: none overlaps another, and
no address lies in two. -/
def Obligations.ValidWindowsDisjoint : Prop :=
  ∀ (s : State) (p : Policy), validate s p = none →
    (windowTable s.transit.policyBase (clampPolicy p)).Pairwise (fun x y => x.overlaps y = false)
    ∧ (windowTable s.transit.policyBase (clampPolicy p)).Pairwise (fun x y =>
        ∀ a : Nat, ¬(x.base ≤ a ∧ a < x.base + x.size ∧ y.base ≤ a ∧ a < y.base + y.size))
    ∧ ∀ (a : Nat) (x y : Window), x ∈ windowTable s.transit.policyBase (clampPolicy p) →
        y ∈ windowTable s.transit.policyBase (clampPolicy p) → x.contains a = true → y.contains a = true → x = y

/-- FABRIC_RESET: upstream entries are abandoned, the held lists flushed, the fault latch emptied and a running heartbeat
lapsed; the sleepers are woken where the Carrier Controller takes its cause within the event; a FABRIC_RESET record, the
HEARTBEAT record of the lapse and the STATE records of the sleepers are handed, and the Report Unit is kept but for them and
the latch; the Slot Timer, the window table and the figures are kept. The order of the three takings is the command's operand
(the model's choice, log entry 7), and that requests presented and not yet taken are the fabric's, so that none waits any
more, is the model's choice too (log entry 8). -/
def Obligations.FabricResetResult : Prop :=
  ∀ (s : State) (order : ResetOrder), Quiet s →
    ∃ t, exec (.fabricReset order) s = .next t
      ∧ t.transit = { s.transit with
          waiting := []
          inFlight := s.transit.inFlight.map (fun e => if e.origin = .upstream then { e with abandoned := true } else e) }
      ∧ (∀ c : Carrier, t.held c = []) ∧ t.report.latch = none
      ∧ t.report.ring = s.report.ring ∧ t.report.producer = s.report.producer ∧ t.report.consumer = s.report.consumer
      ∧ t.report.inFlightRecords = s.report.inFlightRecords
      ∧ (s.loader.applied.isSome = true → s.globals.heartbeatCode ≠ 0 → s.loader.heartbeat = .alive →
          t.loader = { s.loader with heartbeat := .lapsed, heartbeatTimer := none }
          ∧ .failSafe .heartbeatLapsed ∈ t.due)
      ∧ (s.loader.applied = none ∨ s.globals.heartbeatCode = 0 ∨ s.loader.heartbeat = .lapsed → t.loader = s.loader)
      ∧ (order ≠ .loaderReportController → order ≠ .reportLoaderController →
          ∀ c : Carrier, t.carrier c = if s.isCapacity c = true then (s.carrier c).woken .urgent else s.carrier c)
      ∧ (order = .loaderReportController ∨ order = .reportLoaderController →
          (∀ c : Carrier, t.carrier c = s.carrier c) ∧ .failSafe .fabricReset ∈ t.due)
      ∧ t.report = { s.report.handAll s (resetBodies s order) with latch := none } ∧ ResetHandsOn s t order
      ∧ OnlyChanges s t [.controller, .transit, .monitor, .arbiter, .loader, .report, .due]

/-- HEARTBEAT_LAPSE: the state becomes LAPSED, the timer stops, a record is handed and the fail-safe cause goes to the
Carrier Controller. The event taken is the one outstanding (the model's choice, log entry 1). At the tick that brings the
lapse about the cause may also be taken before the Carrier Controller's own taking of the tick, where the operand says so (the
model's choice, log entry 5): every sleeper is then awake when the tick reaches it, and no drain of one ends. -/
def Obligations.HeartbeatLapseResult : Prop :=
  (∀ (s : State) (rest : List Due),
    firstDue (fun d => d == .heartbeatLapse) s.due = some (.heartbeatLapse, rest) →
    ∃ t, exec .heartbeatLapse s = .next t
      ∧ t.loader = { s.loader with heartbeat := .lapsed, heartbeatTimer := none }
      ∧ Handed s t (.heartbeat .lapsed) ∧ t.due = rest ++ [.failSafe .heartbeatLapsed]
      ∧ OnlyChanges s t [.loader, .report, .due])
  ∧ ∀ (s : State) (order : TickOrder) (n : Nat), s.due = [] → order.lapseFirst = true → s.timer.state ≠ .holdover →
      s.loader.applied.isSome = true → s.closesWindow = false → s.loader.heartbeatTimer = some n →
      s.globals.heartbeatCode * 4096 ≤ n + 1 →
      ∃ t, exec (.externalTick false order) s = .next t
        ∧ t.loader = { s.loader with heartbeat := .lapsed, heartbeatTimer := none }
        ∧ (∀ c : Carrier, RecordTicked (if s.isCapacity c = true then (s.carrier c).woken .urgent else s.carrier c)
            (if s.timer.state = .locked ∧ (s.carrier c).values.present = true
              then some (retiredSlot (s.held c) (s.timer.slot + 1)) else none) (t.carrier c))
        ∧ (∀ c : Carrier, s.isCapacity c = true →
            (t.carrier c).state.sleeping = false ∧ .drainDeadline c ∉ t.due ∧ .beaconStarved c ∉ t.due
            ∧ ∀ beacon : Bool, .drainConfirmed c beacon ∉ t.due)
        ∧ .failSafe .heartbeatLapsed ∉ t.due ∧ OnlyChanges s t inner

/-! ### Reports -/

/-- R152: a record handed while the ring is present is admitted where the unconsumed and outstanding records leave a cell
free and the pending queue a place, a place claimed by an owed producer update counting as taken; it is appended with the
GAP flag, which is cleared. Otherwise it is dropped and GAP is set. Nothing but the Report Unit changes either way. -/
def Obligations.RecordAdmission : Prop :=
  ∀ (s : State) (body : RecordBody) (ring : Ring), s.report.ring = some ring →
    ((s.report.producer - s.report.consumer).toNat
        + ((s.report.pending.filter ReportWrite.isRecord).length + (s.report.inFlightRecords.filter id).length) < ring.capacity →
      s.report.pending.length + (if s.report.updateOwed = true then 1 else 0) < 16 →
      (s.hand body).report = { s.report with
        pending := s.report.pending ++ [.ringRecord s.report.gap (s.makeRecord s.timer.windowNumber body)], gap := false })
    ∧ (ring.capacity ≤ (s.report.producer - s.report.consumer).toNat
          + ((s.report.pending.filter ReportWrite.isRecord).length + (s.report.inFlightRecords.filter id).length)
        ∨ 16 ≤ s.report.pending.length + (if s.report.updateOwed = true then 1 else 0) →
      (s.hand body).report = { s.report with gap := true })
    ∧ OnlyChanges s (s.hand body) [.report]

/-- The response to the oldest ring record write in flight. That of a void write only leaves. A live write with OK and the
ring not full advances the producer index, and a producer update becomes due: covered by one pending, appended where there is a
place, or owed; nothing else changes. A live write that fails or finds the ring full voids those behind it and sets GAP. -/
def Obligations.RecordResponseWays : Prop :=
  ∀ (u : ReportUnit) (capacity : Nat) (status : ResponseStatus) (rest : List Bool),
    (u.inFlightRecords = false :: rest → u.recordAnswered capacity status = { u with inFlightRecords := rest })
    ∧ (u.inFlightRecords = true :: rest → status = .ok → (u.producer - u.consumer).toNat < capacity →
        (.producerUpdate ∈ u.pending →
          u.recordAnswered capacity status = { u with inFlightRecords := rest, producer := u.producer + 1 })
        ∧ (.producerUpdate ∉ u.pending → u.pending.length < 16 →
          u.recordAnswered capacity status =
            { u with inFlightRecords := rest, producer := u.producer + 1, pending := u.pending ++ [.producerUpdate] })
        ∧ (.producerUpdate ∉ u.pending → 16 ≤ u.pending.length →
          u.recordAnswered capacity status =
            { u with inFlightRecords := rest, producer := u.producer + 1, updateOwed := true }))
    ∧ (u.inFlightRecords = true :: rest → status = .error ∨ capacity ≤ (u.producer - u.consumer).toNat →
        u.recordAnswered capacity status = { u with inFlightRecords := rest.map (fun _ => false), gap := true })

/-- REPORT_GRANT: the oldest pending write is sent as master 7 with every byte enabled and takes an OWN entry; a ring record
goes to the cell of producer plus the live records in flight; an owed producer update takes the place freed. A record is laid
out by offset and width, header and body, an entry of the status block by its bits, and a beat put together of fields holds
each at its byte offset and no other bit. The list of requests sent is the model's own trace (log entry 12). -/
def Obligations.ReportGrantResult : Prop :=
  (∀ (gap : Bool) (r : Record), RecordFits r → RecordLaid gap r (encodeRecord gap r))
  ∧ (∀ (state : CarrierState) (cls : Option WakeClass) (f : Figures), f.load < 2 ^ 14 → f.lastU < 2 ^ 10 →
    f.latchedLight < 2 ^ 16 → f.latchedOff < 2 ^ 16 → EntryLaid state cls f (encodeEntry state cls f))
  ∧ (∀ (fields : List (Nat × Nat)) (i : Nat), i < 64 →
    ((packBeat fields).getLsbD i = true ↔ ∃ f ∈ fields, 8 * f.1 ≤ i ∧ f.2.testBit (i - 8 * f.1) = true))
  ∧ ∀ (s : State) (ring : Ring) (w : ReportWrite) (rest : List ReportWrite), Quiet s → s.slotFree = true →
    s.report.ring = some ring → s.report.pending = w :: rest → s.transit.waiting = [] ∨ s.transit.turn = .upstream →
    ∃ t r, exec .reportGrant s = .next t
      ∧ r.master = 7 ∧ r.kind = .write ∧ (∀ b ∈ r.data, b.enables = 0xFF)
      ∧ (∀ gap rec, w = .ringRecord gap rec →
          r.data.map Beat.data = encodeRecord gap rec
          ∧ r.address = BitVec.ofNat 40 (ring.base + 256 + 32 *
              ((s.report.producer + BitVec.ofNat 16 (s.report.inFlightRecords.filter id).length).toNat % ring.capacity)))
      ∧ (w = .producerUpdate → r.address = BitVec.ofNat 40 ring.base ∧ r.data.map Beat.data = [packBeat [(0, s.report.producer.toNat)]])
      ∧ (∀ a d, w = .statusBlock a d → r.address = a ∧ r.data.map Beat.data = d)
      ∧ t.outside.sentDownstream = s.outside.sentDownstream ++ [r] ∧ t.outside.givenUpstream = s.outside.givenUpstream
      ∧ t.transit = { s.transit with
          turn := .report
          inFlight := s.transit.inFlight ++
            [{ origin := .own w.form, kind := .write, disposition := .forwarded, abandoned := false, mask := none
               master := 7, count := r.count }] }
      ∧ t.report = { s.report with
          pending := if s.report.updateOwed = true then rest ++ [.producerUpdate] else rest
          updateOwed := false
          inFlightRecords := if w.isRecord = true then s.report.inFlightRecords ++ [true] else s.report.inFlightRecords }
      ∧ OnlyChanges s t [.transit, .report, .outputs]

/-- The fault latch: a fault handed replaces the contents and sets MORE where there were any; at a boundary a full latch
makes a FAULT record for the window that ends, and is emptied exactly where the record is admitted. WINDOW_BOUNDARY does that
first, and then, with the figures the boundary has left, rewrites the status block in four writes where the pending queue has
four places, and skips it whole otherwise. That the record comes first is the model's choice (log entry 34); the event taken
is the one outstanding (log entry 1). -/
def Obligations.FaultLatchRules : Prop :=
  ∀ s : State,
    (∀ f, s.report.latch = none → (s.latchFault f).report.latch = some { fault := f, more := false })
    ∧ (∀ f old, s.report.latch = some old → (s.latchFault f).report.latch = some { fault := f, more := true })
    ∧ (∀ w, s.report.latch = none → s.reportLatchedFault w = s)
    ∧ (∀ w l, s.report.latch = some l → s.report.admits = true →
        (s.reportLatchedFault w).report =
          { s.report with
            latch := none, gap := false
            pending := s.report.pending ++ [.ringRecord s.report.gap (s.makeRecord w (.faultReport l))] })
    ∧ (∀ w l, s.report.latch = some l → s.report.admits = false → (s.reportLatchedFault w).report.latch = some l)
    ∧ ∀ (window : Word32) (clean locked : Bool) (rest : List Due), Quiet s →
        firstDue isBoundary s.due = some (.boundary window clean locked, rest) →
        ∃ u t, u = (s.reportLatchedFault window).report ∧ exec .windowBoundary s = .next t
          ∧ (s.report.ring = none → t.report = u)
          ∧ (∀ ring, s.report.ring = some ring → 12 < u.pending.length + (if u.updateOwed = true then 1 else 0) → t.report = u)
          ∧ (∀ ring, s.report.ring = some ring → u.pending.length + (if u.updateOwed = true then 1 else 0) ≤ 12 →
              t.report = { u with pending := u.pending ++
                [.statusBlock (BitVec.ofNat 40 ring.base)
                  [packBeat [(0, s.report.producer.toNat)],
                   packBeat [(0, window.toNat), (4, s.loader.lastApplied.toNat)],
                   packBeat [(0, s.loader.lastRefused.toNat), (4, s.timer.seconds)],
                   packBeat [(0, s.timer.state.code), (1, if s.timer.clockSet = true then 1 else 0),
                     (2, s.loader.heartbeat.statusCode), (3, (s.arbiter.charged.map Prod.snd).sum),
                     (4, (carriers.filter (fun c => (s.carrier c).state == .queued)).length)],
                   0, 0, 0, 0],
                 .statusBlock (BitVec.ofNat 40 (ring.base + 0x40)) (statusBeats s t [0, 1, 2, 3, 4, 5, 6, 7]),
                 .statusBlock (BitVec.ofNat 40 (ring.base + 0x80)) (statusBeats s t [8, 9, 10, 11, 12, 13, 14, 15]),
                 .statusBlock (BitVec.ofNat 40 (ring.base + 0xC0)) (statusBeats s t [16, 17, 18, 19, 20, 21, 22, 23])] })

/-! ### The laws every step keeps -/

/-- Reset meets every law the steps keep, the law of a holdover (the model's inference, log entry 37) among them. -/
def Obligations.ResetMeetsLaws : Prop :=
  MirrorLaw State.reset ∧ InFlightLaw State.reset ∧ PendingLaw State.reset ∧ RingLaw State.reset ∧ HeldLaw State.reset
    ∧ SleepLaw State.reset ∧ HoldoverLaw State.reset ∧ WakeLaw State.reset ∧ BudgetLaw State.reset

/-- Every step keeps the buffers within their forms: the mirror canonical, the in-flight list within 32 entries with a FORWARDED
one at its head, and the pending queue within 16 writes, full while a producer update is owed. -/
def Obligations.StepKeepsBufferLaws : Prop :=
  (∀ s t : State, MirrorLaw s → step s = .next t → MirrorLaw t)
    ∧ ∀ s t : State, InFlightLaw s → PendingLaw s → step s = .next t → InFlightLaw t ∧ PendingLaw t

/-- The ring law: every step keeps the records written and not yet consumed within the ring capacity. -/
def Obligations.StepKeepsRingLaw : Prop := ∀ s t : State, RingLaw s → step s = .next t → RingLaw t

/-- Every step keeps the law of the held lists. -/
def Obligations.StepKeepsHeldLaw : Prop := ∀ s t : State, HeldLaw s → step s = .next t → HeldLaw t

/-- Every step keeps the law of sleep: a carrier is ABSENT exactly when it is not present, no anchor sleeps, and a capacity
carrier sleeps only while its sector's anchor is ON (R3, R17). Every step keeps the law of a holdover: in HOLDOVER no DRAIN can
come any more, and once the HOLDOVER cause has been taken no capacity carrier drains or sleeps until the timer relocks. The law
of a holdover is the model's inference, not a rule of the spec (log entry 37): R100 and R112 are read against R25, which lets
a DRAIN be taken after the cause. -/
def Obligations.StepKeepsSleepLaw : Prop :=
  (∀ s t : State, SleepLaw s → step s = .next t → SleepLaw t)
    ∧ ∀ s t : State, HoldoverLaw s → step s = .next t → HoldoverLaw t

/-- Every step keeps the wake queue in its order and in agreement with the carrier table and the budget. -/
def Obligations.StepKeepsWakeLaw : Prop :=
  ∀ s t : State, WakeLaw s → BudgetLaw s → step s = .next t → WakeLaw t ∧ BudgetLaw t
end

