-- ==== Sys2Proof/Laws/State.lean ====
section
/-! SUPPORT. One lemma for each field of each plain update of the state, and the reads of the tables. -/

namespace Sys2Proof.Machine

theorem get_tabulate {α : Type} (f : Carrier → α) (c : Carrier) : (tabulate f).get c = f c := by
  fin_cases c <;> rfl

theorem get_tablePut {α : Type} (t : Table α) (c d : Carrier) (x : α) :
    (tablePut t c x).get d = if c = d then x else t.get d := by
  simp only [tablePut, Vector.get_eq_getElem, Vector.getElem_set, Fin.ext_iff]

theorem mem_carriers (c : Carrier) : c ∈ carriers := List.mem_finRange c

variable (s : State)

/-! ### setCarrier -/

@[simp] theorem setCarrier_controller (c : Carrier) (r : CarrierRecord) :
    (s.setCarrier c r).controller = { records := tablePut s.controller.records c r } := rfl
@[simp] theorem setCarrier_timer (c : Carrier) (r : CarrierRecord) : (s.setCarrier c r).timer = s.timer := rfl
@[simp] theorem setCarrier_transit (c : Carrier) (r : CarrierRecord) : (s.setCarrier c r).transit = s.transit := rfl
@[simp] theorem setCarrier_monitor (c : Carrier) (r : CarrierRecord) : (s.setCarrier c r).monitor = s.monitor := rfl
@[simp] theorem setCarrier_evaluator (c : Carrier) (r : CarrierRecord) : (s.setCarrier c r).evaluator = s.evaluator := rfl
@[simp] theorem setCarrier_arbiter (c : Carrier) (r : CarrierRecord) : (s.setCarrier c r).arbiter = s.arbiter := rfl
@[simp] theorem setCarrier_loader (c : Carrier) (r : CarrierRecord) : (s.setCarrier c r).loader = s.loader := rfl
@[simp] theorem setCarrier_report (c : Carrier) (r : CarrierRecord) : (s.setCarrier c r).report = s.report := rfl
@[simp] theorem setCarrier_outside (c : Carrier) (r : CarrierRecord) : (s.setCarrier c r).outside = s.outside := rfl
@[simp] theorem setCarrier_due (c : Carrier) (r : CarrierRecord) : (s.setCarrier c r).due = s.due := rfl
@[simp] theorem setCarrier_pending (c : Carrier) (r : CarrierRecord) : (s.setCarrier c r).pending = s.pending := rfl

/-! ### setFigures -/

@[simp] theorem setFigures_controller (c : Carrier) (f : Figures) : (s.setFigures c f).controller = s.controller := rfl
@[simp] theorem setFigures_timer (c : Carrier) (f : Figures) : (s.setFigures c f).timer = s.timer := rfl
@[simp] theorem setFigures_transit (c : Carrier) (f : Figures) : (s.setFigures c f).transit = s.transit := rfl
@[simp] theorem setFigures_monitor (c : Carrier) (f : Figures) : (s.setFigures c f).monitor = s.monitor := rfl
@[simp] theorem setFigures_evaluator (c : Carrier) (f : Figures) :
    (s.setFigures c f).evaluator = { s.evaluator with figures := tablePut s.evaluator.figures c f } := rfl
@[simp] theorem setFigures_arbiter (c : Carrier) (f : Figures) : (s.setFigures c f).arbiter = s.arbiter := rfl
@[simp] theorem setFigures_loader (c : Carrier) (f : Figures) : (s.setFigures c f).loader = s.loader := rfl
@[simp] theorem setFigures_report (c : Carrier) (f : Figures) : (s.setFigures c f).report = s.report := rfl
@[simp] theorem setFigures_outside (c : Carrier) (f : Figures) : (s.setFigures c f).outside = s.outside := rfl
@[simp] theorem setFigures_due (c : Carrier) (f : Figures) : (s.setFigures c f).due = s.due := rfl
@[simp] theorem setFigures_pending (c : Carrier) (f : Figures) : (s.setFigures c f).pending = s.pending := rfl

/-! ### setHeld -/

@[simp] theorem setHeld_controller (c : Carrier) (l : List Held) : (s.setHeld c l).controller = s.controller := rfl
@[simp] theorem setHeld_timer (c : Carrier) (l : List Held) : (s.setHeld c l).timer = s.timer := rfl
@[simp] theorem setHeld_transit (c : Carrier) (l : List Held) : (s.setHeld c l).transit = s.transit := rfl
@[simp] theorem setHeld_monitor (c : Carrier) (l : List Held) :
    (s.setHeld c l).monitor = { held := tablePut s.monitor.held c l } := rfl
@[simp] theorem setHeld_evaluator (c : Carrier) (l : List Held) : (s.setHeld c l).evaluator = s.evaluator := rfl
@[simp] theorem setHeld_arbiter (c : Carrier) (l : List Held) : (s.setHeld c l).arbiter = s.arbiter := rfl
@[simp] theorem setHeld_loader (c : Carrier) (l : List Held) : (s.setHeld c l).loader = s.loader := rfl
@[simp] theorem setHeld_report (c : Carrier) (l : List Held) : (s.setHeld c l).report = s.report := rfl
@[simp] theorem setHeld_outside (c : Carrier) (l : List Held) : (s.setHeld c l).outside = s.outside := rfl
@[simp] theorem setHeld_due (c : Carrier) (l : List Held) : (s.setHeld c l).due = s.due := rfl
@[simp] theorem setHeld_pending (c : Carrier) (l : List Held) : (s.setHeld c l).pending = s.pending := rfl

/-! ### setReady -/

@[simp] theorem setReady_controller (c : Carrier) (b : Bool) : (s.setReady c b).controller = s.controller := rfl
@[simp] theorem setReady_timer (c : Carrier) (b : Bool) : (s.setReady c b).timer = s.timer := rfl
@[simp] theorem setReady_transit (c : Carrier) (b : Bool) : (s.setReady c b).transit = s.transit := rfl
@[simp] theorem setReady_monitor (c : Carrier) (b : Bool) : (s.setReady c b).monitor = s.monitor := rfl
@[simp] theorem setReady_evaluator (c : Carrier) (b : Bool) : (s.setReady c b).evaluator = s.evaluator := rfl
@[simp] theorem setReady_arbiter (c : Carrier) (b : Bool) : (s.setReady c b).arbiter = s.arbiter := rfl
@[simp] theorem setReady_loader (c : Carrier) (b : Bool) : (s.setReady c b).loader = s.loader := rfl
@[simp] theorem setReady_report (c : Carrier) (b : Bool) : (s.setReady c b).report = s.report := rfl
@[simp] theorem setReady_outside (c : Carrier) (b : Bool) :
    (s.setReady c b).outside = { s.outside with readyHigh := tablePut s.outside.readyHigh c b } := rfl
@[simp] theorem setReady_due (c : Carrier) (b : Bool) : (s.setReady c b).due = s.due := rfl
@[simp] theorem setReady_pending (c : Carrier) (b : Bool) : (s.setReady c b).pending = s.pending := rfl

/-! ### addDue -/

@[simp] theorem addDue_controller (d : Due) : (s.addDue d).controller = s.controller := rfl
@[simp] theorem addDue_timer (d : Due) : (s.addDue d).timer = s.timer := rfl
@[simp] theorem addDue_transit (d : Due) : (s.addDue d).transit = s.transit := rfl
@[simp] theorem addDue_monitor (d : Due) : (s.addDue d).monitor = s.monitor := rfl
@[simp] theorem addDue_evaluator (d : Due) : (s.addDue d).evaluator = s.evaluator := rfl
@[simp] theorem addDue_arbiter (d : Due) : (s.addDue d).arbiter = s.arbiter := rfl
@[simp] theorem addDue_loader (d : Due) : (s.addDue d).loader = s.loader := rfl
@[simp] theorem addDue_report (d : Due) : (s.addDue d).report = s.report := rfl
@[simp] theorem addDue_outside (d : Due) : (s.addDue d).outside = s.outside := rfl
@[simp] theorem addDue_due (d : Due) : (s.addDue d).due = s.due ++ [d] := rfl
@[simp] theorem addDue_pending (d : Due) : (s.addDue d).pending = s.pending := rfl

/-! ### dropExpiry -/

@[simp] theorem dropExpiry_controller (c : Carrier) : (s.dropExpiry c).controller = s.controller := rfl
@[simp] theorem dropExpiry_timer (c : Carrier) : (s.dropExpiry c).timer = s.timer := rfl
@[simp] theorem dropExpiry_transit (c : Carrier) : (s.dropExpiry c).transit = s.transit := rfl
@[simp] theorem dropExpiry_monitor (c : Carrier) : (s.dropExpiry c).monitor = s.monitor := rfl
@[simp] theorem dropExpiry_evaluator (c : Carrier) : (s.dropExpiry c).evaluator = s.evaluator := rfl
@[simp] theorem dropExpiry_arbiter (c : Carrier) : (s.dropExpiry c).arbiter = s.arbiter := rfl
@[simp] theorem dropExpiry_loader (c : Carrier) : (s.dropExpiry c).loader = s.loader := rfl
@[simp] theorem dropExpiry_report (c : Carrier) : (s.dropExpiry c).report = s.report := rfl
@[simp] theorem dropExpiry_outside (c : Carrier) : (s.dropExpiry c).outside = s.outside := rfl
@[simp] theorem dropExpiry_due (c : Carrier) : (s.dropExpiry c).due = s.due.filter (fun d => d != .warmupExpiry c) := rfl
@[simp] theorem dropExpiry_pending (c : Carrier) : (s.dropExpiry c).pending = s.pending := rfl

/-! ### hand -/

@[simp] theorem hand_controller (b : RecordBody) : (s.hand b).controller = s.controller := rfl
@[simp] theorem hand_timer (b : RecordBody) : (s.hand b).timer = s.timer := rfl
@[simp] theorem hand_transit (b : RecordBody) : (s.hand b).transit = s.transit := rfl
@[simp] theorem hand_monitor (b : RecordBody) : (s.hand b).monitor = s.monitor := rfl
@[simp] theorem hand_evaluator (b : RecordBody) : (s.hand b).evaluator = s.evaluator := rfl
@[simp] theorem hand_arbiter (b : RecordBody) : (s.hand b).arbiter = s.arbiter := rfl
@[simp] theorem hand_loader (b : RecordBody) : (s.hand b).loader = s.loader := rfl
@[simp] theorem hand_report (b : RecordBody) :
    (s.hand b).report = s.report.hand (s.makeRecord s.timer.windowNumber b) := rfl
@[simp] theorem hand_outside (b : RecordBody) : (s.hand b).outside = s.outside := rfl
@[simp] theorem hand_due (b : RecordBody) : (s.hand b).due = s.due := rfl
@[simp] theorem hand_pending (b : RecordBody) : (s.hand b).pending = s.pending := rfl

/-! ### latchFault -/

@[simp] theorem latchFault_controller (f : BusFault) : (s.latchFault f).controller = s.controller := rfl
@[simp] theorem latchFault_timer (f : BusFault) : (s.latchFault f).timer = s.timer := rfl
@[simp] theorem latchFault_transit (f : BusFault) : (s.latchFault f).transit = s.transit := rfl
@[simp] theorem latchFault_monitor (f : BusFault) : (s.latchFault f).monitor = s.monitor := rfl
@[simp] theorem latchFault_evaluator (f : BusFault) : (s.latchFault f).evaluator = s.evaluator := rfl
@[simp] theorem latchFault_arbiter (f : BusFault) : (s.latchFault f).arbiter = s.arbiter := rfl
@[simp] theorem latchFault_loader (f : BusFault) : (s.latchFault f).loader = s.loader := rfl
@[simp] theorem latchFault_report (f : BusFault) :
    (s.latchFault f).report = { s.report with latch := some { fault := f, more := s.report.latch.isSome } } := rfl
@[simp] theorem latchFault_outside (f : BusFault) : (s.latchFault f).outside = s.outside := rfl
@[simp] theorem latchFault_due (f : BusFault) : (s.latchFault f).due = s.due := rfl
@[simp] theorem latchFault_pending (f : BusFault) : (s.latchFault f).pending = s.pending := rfl

/-! ### flushAll -/

@[simp] theorem flushAll_controller : (s.flushAll).controller = s.controller := rfl
@[simp] theorem flushAll_timer : (s.flushAll).timer = s.timer := rfl
@[simp] theorem flushAll_transit : (s.flushAll).transit = s.transit := rfl
@[simp] theorem flushAll_monitor : (s.flushAll).monitor = { held := tabulate fun _ => [] } := rfl
@[simp] theorem flushAll_evaluator : (s.flushAll).evaluator = s.evaluator := rfl
@[simp] theorem flushAll_arbiter : (s.flushAll).arbiter = s.arbiter := rfl
@[simp] theorem flushAll_loader : (s.flushAll).loader = s.loader := rfl
@[simp] theorem flushAll_report : (s.flushAll).report = s.report := rfl
@[simp] theorem flushAll_outside : (s.flushAll).outside = s.outside := rfl
@[simp] theorem flushAll_due : (s.flushAll).due = s.due := rfl
@[simp] theorem flushAll_pending : (s.flushAll).pending = s.pending := rfl

/-! ### appendEntry -/

@[simp] theorem appendEntry_controller (e : InFlight) : (s.appendEntry e).controller = s.controller := rfl
@[simp] theorem appendEntry_timer (e : InFlight) : (s.appendEntry e).timer = s.timer := rfl
@[simp] theorem appendEntry_transit (e : InFlight) :
    (s.appendEntry e).transit = { s.transit with inFlight := s.transit.inFlight ++ [e] } := rfl
@[simp] theorem appendEntry_monitor (e : InFlight) : (s.appendEntry e).monitor = s.monitor := rfl
@[simp] theorem appendEntry_evaluator (e : InFlight) : (s.appendEntry e).evaluator = s.evaluator := rfl
@[simp] theorem appendEntry_arbiter (e : InFlight) : (s.appendEntry e).arbiter = s.arbiter := rfl
@[simp] theorem appendEntry_loader (e : InFlight) : (s.appendEntry e).loader = s.loader := rfl
@[simp] theorem appendEntry_report (e : InFlight) : (s.appendEntry e).report = s.report := rfl
@[simp] theorem appendEntry_outside (e : InFlight) : (s.appendEntry e).outside = s.outside := rfl
@[simp] theorem appendEntry_due (e : InFlight) : (s.appendEntry e).due = s.due := rfl
@[simp] theorem appendEntry_pending (e : InFlight) : (s.appendEntry e).pending = s.pending := rfl

/-! ### send -/

@[simp] theorem send_controller (r : Request) : (s.send r).controller = s.controller := rfl
@[simp] theorem send_timer (r : Request) : (s.send r).timer = s.timer := rfl
@[simp] theorem send_transit (r : Request) : (s.send r).transit = s.transit := rfl
@[simp] theorem send_monitor (r : Request) : (s.send r).monitor = s.monitor := rfl
@[simp] theorem send_evaluator (r : Request) : (s.send r).evaluator = s.evaluator := rfl
@[simp] theorem send_arbiter (r : Request) : (s.send r).arbiter = s.arbiter := rfl
@[simp] theorem send_loader (r : Request) : (s.send r).loader = s.loader := rfl
@[simp] theorem send_report (r : Request) : (s.send r).report = s.report := rfl
@[simp] theorem send_outside (r : Request) :
    (s.send r).outside = { s.outside with sentDownstream := s.outside.sentDownstream ++ [r] } := rfl
@[simp] theorem send_due (r : Request) : (s.send r).due = s.due := rfl
@[simp] theorem send_pending (r : Request) : (s.send r).pending = s.pending := rfl

/-! ### answer -/

@[simp] theorem answer_controller (a : Answer) : (s.answer a).controller = s.controller := rfl
@[simp] theorem answer_timer (a : Answer) : (s.answer a).timer = s.timer := rfl
@[simp] theorem answer_transit (a : Answer) : (s.answer a).transit = s.transit := rfl
@[simp] theorem answer_monitor (a : Answer) : (s.answer a).monitor = s.monitor := rfl
@[simp] theorem answer_evaluator (a : Answer) : (s.answer a).evaluator = s.evaluator := rfl
@[simp] theorem answer_arbiter (a : Answer) : (s.answer a).arbiter = s.arbiter := rfl
@[simp] theorem answer_loader (a : Answer) : (s.answer a).loader = s.loader := rfl
@[simp] theorem answer_report (a : Answer) : (s.answer a).report = s.report := rfl
@[simp] theorem answer_outside (a : Answer) :
    (s.answer a).outside = { s.outside with givenUpstream := s.outside.givenUpstream ++ [a] } := rfl
@[simp] theorem answer_due (a : Answer) : (s.answer a).due = s.due := rfl
@[simp] theorem answer_pending (a : Answer) : (s.answer a).pending = s.pending := rfl

/-! ### present -/

@[simp] theorem present_controller (r : Request) : (s.present r).controller = s.controller := rfl
@[simp] theorem present_timer (r : Request) : (s.present r).timer = s.timer := rfl
@[simp] theorem present_transit (r : Request) :
    (s.present r).transit = { s.transit with waiting := s.transit.waiting ++ [r] } := rfl
@[simp] theorem present_monitor (r : Request) : (s.present r).monitor = s.monitor := rfl
@[simp] theorem present_evaluator (r : Request) : (s.present r).evaluator = s.evaluator := rfl
@[simp] theorem present_arbiter (r : Request) : (s.present r).arbiter = s.arbiter := rfl
@[simp] theorem present_loader (r : Request) : (s.present r).loader = s.loader := rfl
@[simp] theorem present_report (r : Request) : (s.present r).report = s.report := rfl
@[simp] theorem present_outside (r : Request) : (s.present r).outside = s.outside := rfl
@[simp] theorem present_due (r : Request) : (s.present r).due = s.due := rfl
@[simp] theorem present_pending (r : Request) : (s.present r).pending = s.pending := rfl

/-! ### The tables read after an update -/

theorem carrier_setCarrier (c d : Carrier) (r : CarrierRecord) :
    (s.setCarrier c r).carrier d = if c = d then r else s.carrier d := get_tablePut _ _ _ _

@[simp] theorem carrier_setCarrier_same (c : Carrier) (r : CarrierRecord) : (s.setCarrier c r).carrier c = r := by
  simp [carrier_setCarrier]

theorem figures_setFigures (c d : Carrier) (f : Figures) :
    (s.setFigures c f).figures d = if c = d then f else s.figures d := get_tablePut _ _ _ _

@[simp] theorem figures_setFigures_same (c : Carrier) (f : Figures) : (s.setFigures c f).figures c = f := by
  simp [figures_setFigures]

theorem held_setHeld (c d : Carrier) (l : List Held) :
    (s.setHeld c l).held d = if c = d then l else s.held d := get_tablePut _ _ _ _

@[simp] theorem held_setHeld_same (c : Carrier) (l : List Held) : (s.setHeld c l).held c = l := by
  simp [held_setHeld]

theorem readyLevel_setReady (c d : Carrier) (b : Bool) :
    (s.setReady c b).readyLevel d = if c = d then b else s.readyLevel d := get_tablePut _ _ _ _

@[simp] theorem readyLevel_setReady_same (c : Carrier) (b : Bool) : (s.setReady c b).readyLevel c = b := by
  simp [readyLevel_setReady]

@[simp] theorem held_flushAll (c : Carrier) : s.flushAll.held c = [] := get_tabulate _ _

@[simp] theorem figures_setCarrier (c : Carrier) (r : CarrierRecord) (e : Carrier) : (s.setCarrier c r).figures e = s.figures e := rfl
@[simp] theorem held_setCarrier (c : Carrier) (r : CarrierRecord) (e : Carrier) : (s.setCarrier c r).held e = s.held e := rfl
@[simp] theorem readyLevel_setCarrier (c : Carrier) (r : CarrierRecord) (e : Carrier) : (s.setCarrier c r).readyLevel e = s.readyLevel e := rfl

@[simp] theorem carrier_setFigures (c : Carrier) (f : Figures) (e : Carrier) : (s.setFigures c f).carrier e = s.carrier e := rfl
@[simp] theorem held_setFigures (c : Carrier) (f : Figures) (e : Carrier) : (s.setFigures c f).held e = s.held e := rfl
@[simp] theorem readyLevel_setFigures (c : Carrier) (f : Figures) (e : Carrier) : (s.setFigures c f).readyLevel e = s.readyLevel e := rfl

@[simp] theorem carrier_setHeld (c : Carrier) (l : List Held) (e : Carrier) : (s.setHeld c l).carrier e = s.carrier e := rfl
@[simp] theorem figures_setHeld (c : Carrier) (l : List Held) (e : Carrier) : (s.setHeld c l).figures e = s.figures e := rfl
@[simp] theorem readyLevel_setHeld (c : Carrier) (l : List Held) (e : Carrier) : (s.setHeld c l).readyLevel e = s.readyLevel e := rfl

@[simp] theorem carrier_setReady (c : Carrier) (b : Bool) (e : Carrier) : (s.setReady c b).carrier e = s.carrier e := rfl
@[simp] theorem figures_setReady (c : Carrier) (b : Bool) (e : Carrier) : (s.setReady c b).figures e = s.figures e := rfl
@[simp] theorem held_setReady (c : Carrier) (b : Bool) (e : Carrier) : (s.setReady c b).held e = s.held e := rfl

@[simp] theorem carrier_addDue (d : Due) (e : Carrier) : (s.addDue d).carrier e = s.carrier e := rfl
@[simp] theorem figures_addDue (d : Due) (e : Carrier) : (s.addDue d).figures e = s.figures e := rfl
@[simp] theorem held_addDue (d : Due) (e : Carrier) : (s.addDue d).held e = s.held e := rfl
@[simp] theorem readyLevel_addDue (d : Due) (e : Carrier) : (s.addDue d).readyLevel e = s.readyLevel e := rfl

@[simp] theorem carrier_dropExpiry (c : Carrier) (e : Carrier) : (s.dropExpiry c).carrier e = s.carrier e := rfl
@[simp] theorem figures_dropExpiry (c : Carrier) (e : Carrier) : (s.dropExpiry c).figures e = s.figures e := rfl
@[simp] theorem held_dropExpiry (c : Carrier) (e : Carrier) : (s.dropExpiry c).held e = s.held e := rfl
@[simp] theorem readyLevel_dropExpiry (c : Carrier) (e : Carrier) : (s.dropExpiry c).readyLevel e = s.readyLevel e := rfl

@[simp] theorem carrier_hand (b : RecordBody) (e : Carrier) : (s.hand b).carrier e = s.carrier e := rfl
@[simp] theorem figures_hand (b : RecordBody) (e : Carrier) : (s.hand b).figures e = s.figures e := rfl
@[simp] theorem held_hand (b : RecordBody) (e : Carrier) : (s.hand b).held e = s.held e := rfl
@[simp] theorem readyLevel_hand (b : RecordBody) (e : Carrier) : (s.hand b).readyLevel e = s.readyLevel e := rfl

@[simp] theorem carrier_latchFault (f : BusFault) (e : Carrier) : (s.latchFault f).carrier e = s.carrier e := rfl
@[simp] theorem figures_latchFault (f : BusFault) (e : Carrier) : (s.latchFault f).figures e = s.figures e := rfl
@[simp] theorem held_latchFault (f : BusFault) (e : Carrier) : (s.latchFault f).held e = s.held e := rfl
@[simp] theorem readyLevel_latchFault (f : BusFault) (e : Carrier) : (s.latchFault f).readyLevel e = s.readyLevel e := rfl

@[simp] theorem carrier_flushAll (e : Carrier) : (s.flushAll).carrier e = s.carrier e := rfl
@[simp] theorem figures_flushAll (e : Carrier) : (s.flushAll).figures e = s.figures e := rfl
@[simp] theorem readyLevel_flushAll (e : Carrier) : (s.flushAll).readyLevel e = s.readyLevel e := rfl

@[simp] theorem carrier_appendEntry (i : InFlight) (e : Carrier) : (s.appendEntry i).carrier e = s.carrier e := rfl
@[simp] theorem figures_appendEntry (i : InFlight) (e : Carrier) : (s.appendEntry i).figures e = s.figures e := rfl
@[simp] theorem held_appendEntry (i : InFlight) (e : Carrier) : (s.appendEntry i).held e = s.held e := rfl
@[simp] theorem readyLevel_appendEntry (i : InFlight) (e : Carrier) : (s.appendEntry i).readyLevel e = s.readyLevel e := rfl

@[simp] theorem carrier_send (r : Request) (e : Carrier) : (s.send r).carrier e = s.carrier e := rfl
@[simp] theorem figures_send (r : Request) (e : Carrier) : (s.send r).figures e = s.figures e := rfl
@[simp] theorem held_send (r : Request) (e : Carrier) : (s.send r).held e = s.held e := rfl
@[simp] theorem readyLevel_send (r : Request) (e : Carrier) : (s.send r).readyLevel e = s.readyLevel e := rfl

@[simp] theorem carrier_answer (a : Answer) (e : Carrier) : (s.answer a).carrier e = s.carrier e := rfl
@[simp] theorem figures_answer (a : Answer) (e : Carrier) : (s.answer a).figures e = s.figures e := rfl
@[simp] theorem held_answer (a : Answer) (e : Carrier) : (s.answer a).held e = s.held e := rfl
@[simp] theorem readyLevel_answer (a : Answer) (e : Carrier) : (s.answer a).readyLevel e = s.readyLevel e := rfl

@[simp] theorem carrier_present (r : Request) (e : Carrier) : (s.present r).carrier e = s.carrier e := rfl
@[simp] theorem figures_present (r : Request) (e : Carrier) : (s.present r).figures e = s.figures e := rfl
@[simp] theorem held_present (r : Request) (e : Carrier) : (s.present r).held e = s.held e := rfl
@[simp] theorem readyLevel_present (r : Request) (e : Carrier) : (s.present r).readyLevel e = s.readyLevel e := rfl

/-! ### The events outstanding replaced -/

@[simp] theorem carrier_withDue (l : List Due) (e : Carrier) : State.carrier { s with due := l } e = s.carrier e := rfl
@[simp] theorem figures_withDue (l : List Due) (e : Carrier) : State.figures { s with due := l } e = s.figures e := rfl
@[simp] theorem held_withDue (l : List Due) (e : Carrier) : State.held { s with due := l } e = s.held e := rfl
@[simp] theorem readyLevel_withDue (l : List Due) (e : Carrier) : State.readyLevel { s with due := l } e = s.readyLevel e := rfl
@[simp] theorem isCapacity_withDue (l : List Due) (e : Carrier) : State.isCapacity { s with due := l } e = s.isCapacity e := rfl
@[simp] theorem globals_withDue (l : List Due) : State.globals { s with due := l } = s.globals := rfl

end Sys2Proof.Machine
end

