-- ==== Sys2Proof/Laws/Frames.lean ====
section
/-! SUPPORT. For each shared operation, the parts of the state it can change. -/

namespace Sys2Proof.Machine

/-! ### Putting frames together -/

theorem OnlyChanges.refl (s : State) (l : List Part) : OnlyChanges s s l := by
  intro p _; cases p <;> simp [SamePart]

theorem SamePart.trans {s t u : State} {p : Part} (h : SamePart s t p) (k : SamePart t u p) : SamePart s u p := by
  cases p <;> simp_all [SamePart]

theorem OnlyChanges.trans {s t u : State} {l : List Part} (h : OnlyChanges s t l) (k : OnlyChanges t u l) :
    OnlyChanges s u l :=
  fun p hp => (h p hp).trans (k p hp)

theorem OnlyChanges.mono {s t : State} {l m : List Part} (h : OnlyChanges s t l) (hs : ∀ p, p ∈ l → p ∈ m) :
    OnlyChanges s t m :=
  fun p hp => h p (fun hl => hp (hs p hl))

/-- Two frames after each other, each widened to the list wanted. -/
theorem OnlyChanges.seq {s t u : State} {l m n : List Part} (h : OnlyChanges s t l) (k : OnlyChanges t u m)
    (hl : ∀ p, p ∈ l → p ∈ n := by decide) (hm : ∀ p, p ∈ m → p ∈ n := by decide) : OnlyChanges s u n :=
  (h.mono hl).trans (k.mono hm)

theorem foldl_onlyChanges {α : Type} (f : State → α → State) (l : List Part)
    (h : ∀ s a, OnlyChanges s (f s a) l) (as : List α) (s : State) : OnlyChanges s (as.foldl f s) l := by
  induction as generalizing s with
  | nil => exact .refl s l
  | cons a as ih => exact (h s a).trans (ih (f s a))

/-! ### Plain updates -/

variable (s : State)

theorem setCarrier_changes (c : Carrier) (r : CarrierRecord) : OnlyChanges s (s.setCarrier c r) [.controller] := by
  intro p hp; cases p <;> simp_all [SamePart]

theorem setFigures_changes (c : Carrier) (f : Figures) : OnlyChanges s (s.setFigures c f) [.evaluator] := by
  intro p hp; cases p <;> simp_all [SamePart]

theorem setHeld_changes (c : Carrier) (l : List Held) : OnlyChanges s (s.setHeld c l) [.monitor] := by
  intro p hp; cases p <;> simp_all [SamePart]

theorem setReady_changes (c : Carrier) (b : Bool) : OnlyChanges s (s.setReady c b) [.readyLines] := by
  intro p hp; cases p <;> simp_all [SamePart]

theorem addDue_changes (d : Due) : OnlyChanges s (s.addDue d) [.due] := by
  intro p hp; cases p <;> simp_all [SamePart]

theorem dropExpiry_changes (c : Carrier) : OnlyChanges s (s.dropExpiry c) [.due] := by
  intro p hp; cases p <;> simp_all [SamePart]

theorem hand_changes (b : RecordBody) : OnlyChanges s (s.hand b) [.report] := by
  intro p hp; cases p <;> simp_all [SamePart]

theorem latchFault_changes (f : BusFault) : OnlyChanges s (s.latchFault f) [.report] := by
  intro p hp; cases p <;> simp_all [SamePart]

theorem flushAll_changes : OnlyChanges s s.flushAll [.monitor] := by
  intro p hp; cases p <;> simp_all [SamePart]

theorem appendEntry_changes (e : InFlight) : OnlyChanges s (s.appendEntry e) [.transit] := by
  intro p hp; cases p <;> simp_all [SamePart]

theorem send_changes (r : Request) : OnlyChanges s (s.send r) [.outputs] := by
  intro p hp; cases p <;> simp_all [SamePart]

theorem answer_changes (a : Answer) : OnlyChanges s (s.answer a) [.outputs] := by
  intro p hp; cases p <;> simp_all [SamePart]

theorem present_changes (r : Request) : OnlyChanges s (s.present r) [.transit] := by
  intro p hp; cases p <;> simp_all [SamePart]

/-! ### The arbiter -/

theorem makeGrant_changes (e : WakeEntry) : OnlyChanges s (s.makeGrant e) [.arbiter, .due] := by
  intro p hp; cases p <;> simp_all [SamePart, State.makeGrant]

theorem attempts_changes (n : Nat) : OnlyChanges s (attempts n s) [.arbiter, .due] := by
  induction n generalizing s with
  | zero => exact .refl _ _
  | succ n ih =>
    rw [attempts]
    split
    · exact .refl _ _
    · split
      · exact (makeGrant_changes s _).trans (ih _)
      · exact .refl _ _

theorem attempt_changes : OnlyChanges s s.attempt [.arbiter, .due] := attempts_changes s _

theorem enqueue_changes (c : Carrier) (k : WakeClass) : OnlyChanges s (s.enqueue c k) [.arbiter, .due] := by
  refine OnlyChanges.trans (t := _) ?_ (attempt_changes _)
  intro p hp; cases p <;> simp_all [SamePart]

theorem raiseEntry_changes (c : Carrier) (k : WakeClass) : OnlyChanges s (s.raiseEntry c k) [.arbiter, .due] := by
  rw [State.raiseEntry]
  split
  · exact .refl _ _
  · refine OnlyChanges.trans (t := _) ?_ (attempt_changes _)
    intro p hp; cases p <;> simp_all [SamePart]

theorem release_changes (c : Carrier) : OnlyChanges s (s.release c) [.arbiter, .due] := by
  refine OnlyChanges.trans (t := _) ?_ (attempt_changes _)
  intro p hp; cases p <;> simp_all [SamePart]

/-! ### Transitions and wakes -/

theorem transition_changes (c : Carrier) (st : CarrierState) (k : Cause) (q : Option WakeClass) :
    OnlyChanges s (s.transition c st k q) [.controller, .evaluator, .report] := by
  rw [State.transition]
  split
  · exact (setCarrier_changes s _ _).seq ((setFigures_changes _ _ _).seq (hand_changes _ _) (n := [.evaluator, .report]))
  · exact (setCarrier_changes s _ _).seq (hand_changes _ _)

/-- A transition that does not end a warm-up in ON leaves the figures (R79). -/
theorem transition_changes_plain (c : Carrier) (st : CarrierState) (k : Cause) (q : Option WakeClass)
    (h : ¬((s.carrier c).state = .warming ∧ st = .on)) :
    OnlyChanges s (s.transition c st k q) [.controller, .report] := by
  rw [State.transition]
  rw [if_neg h]
  exact (setCarrier_changes s _ _).seq (hand_changes _ _)

theorem queueCarrier_changes (c : Carrier) (k : Cause) (q : WakeClass) :
    OnlyChanges s (s.queueCarrier c k q) [.controller, .report, .arbiter, .due] :=
  (transition_changes_plain s c _ _ _ (by simp)).seq (enqueue_changes _ _ _)

theorem raiseClass_changes (c : Carrier) (k : Cause) (q : WakeClass) :
    OnlyChanges s (s.raiseClass c k q) [.controller, .report, .arbiter, .due] := by
  rw [State.raiseClass]
  split
  · exact .refl _ _
  · split
    · exact (setCarrier_changes s _ _).seq ((hand_changes _ _).seq (raiseEntry_changes _ _ _) (n := [.report, .arbiter, .due]))
    · exact .refl _ _

theorem wake_changes (c : Carrier) (k : Cause) (q : WakeClass) :
    OnlyChanges s (s.wake c k q) [.controller, .report, .arbiter, .due] := by
  rw [State.wake]
  split
  case h_1 h => exact (transition_changes_plain s c _ _ _ (by simp [h])).mono (by decide)
  case h_2 h => exact (transition_changes_plain s c _ _ _ (by simp [h])).mono (by decide)
  · exact queueCarrier_changes s _ _ _
  · exact raiseClass_changes s _ _ _
  all_goals exact .refl _ _

theorem wakeAll_changes (which : State → Carrier → Bool) (k : Cause) (q : WakeClass) :
    OnlyChanges s (s.wakeAll which k q) [.controller, .report, .arbiter, .due] := by
  refine foldl_onlyChanges _ _ (fun s c => ?_) _ _
  split
  · exact wake_changes s _ _ _
  · exact .refl _ _

theorem readyLost_changes (c : Carrier) : OnlyChanges s (s.readyLost c) [.controller, .report, .arbiter, .due] := by
  have h := transition_changes_plain s c .faulted .readyLost none (by simp)
  rw [State.readyLost]
  split
  · exact h.seq (wakeAll_changes _ _ _ _)
  · exact h.mono (by decide)

theorem endWarmup_changes (c : Carrier) (st : CarrierState) (k : Cause) :
    OnlyChanges s (s.endWarmup c st k) [.controller, .evaluator, .report, .arbiter, .due] :=
  (dropExpiry_changes s c).seq ((transition_changes _ _ _ _ _).seq (release_changes _ _)
    (n := [.controller, .evaluator, .report, .arbiter, .due]))

/-! ### The events of the carriers and of the heartbeat -/

theorem takeFailSafe_changes (f : FailSafe) : OnlyChanges s (s.takeFailSafe f) [.controller, .report, .arbiter, .due] :=
  wakeAll_changes s _ _ _

theorem takeDemand_changes (c : Carrier) (u : Bool) :
    OnlyChanges s (s.takeDemand c u) [.controller, .report, .arbiter, .due] := by
  rw [State.takeDemand]
  split
  · exact queueCarrier_changes s _ _ _
  · exact raiseClass_changes s _ _ _
  all_goals exact .refl _ _

theorem takeGrant_changes (c : Carrier) :
    OnlyChanges s (s.takeGrant c) [.controller, .evaluator, .report, .arbiter, .due] := by
  rw [State.takeGrant]
  split
  · dsimp only
    split
    · exact (transition_changes s _ _ _ _).seq (endWarmup_changes _ _ _ _)
    · exact (transition_changes s _ _ _ _).mono (by decide)
  all_goals exact .refl _ _

theorem takeReadyRise_changes (c : Carrier) :
    OnlyChanges s (s.takeReadyRise c) [.readyLines, .controller, .evaluator, .report, .arbiter, .due] := by
  rw [State.takeReadyRise]
  split
  · exact (setReady_changes s _ _).seq (endWarmup_changes _ _ _ _)
  · exact (setReady_changes s _ _).mono (by decide)

theorem takeReadyFall_changes (c : Carrier) :
    OnlyChanges s (s.takeReadyFall c) [.readyLines, .controller, .report, .arbiter, .due] := by
  rw [State.takeReadyFall]
  split
  · exact (setReady_changes s _ _).seq (readyLost_changes _ _)
  · exact (setReady_changes s _ _).mono (by decide)

theorem takeWarmupExpiry_changes (c : Carrier) :
    OnlyChanges s (s.takeWarmupExpiry c) [.controller, .evaluator, .report, .arbiter, .due] := by
  rw [State.takeWarmupExpiry]
  split
  · split <;> exact endWarmup_changes s _ _ _
  all_goals exact .refl _ _

theorem takeDrainConfirmed_changes (c : Carrier) (b : Bool) :
    OnlyChanges s (s.takeDrainConfirmed c b) [.controller, .report] := by
  rw [State.takeDrainConfirmed]
  split
  · exact (transition_changes_plain s c _ _ _ (by simp)).seq (setCarrier_changes _ _ _)
  all_goals exact .refl _ _

theorem takeDrainDeadline_changes (c : Carrier) : OnlyChanges s (s.takeDrainDeadline c) [.controller, .report] := by
  rw [State.takeDrainDeadline]
  split
  case h_1 h => exact (transition_changes_plain s c _ _ _ (by simp [h])).seq (setCarrier_changes _ _ _)
  all_goals exact .refl _ _

theorem takeBeaconStarved_changes (c : Carrier) : OnlyChanges s (s.takeBeaconStarved c) [.controller, .report] := by
  rw [State.takeBeaconStarved]
  split
  case h_1 h => exact transition_changes_plain s c _ _ _ (by simp [h])
  all_goals exact .refl _ _

theorem takeReadyNotice_changes (c : Carrier) : OnlyChanges s (s.takeReadyNotice c) [.arbiter, .due] := by
  rw [State.takeReadyNotice]
  split
  · exact attempt_changes s
  · exact .refl _ _

theorem takeHeartbeatLapse_changes : OnlyChanges s s.takeHeartbeatLapse [.loader, .report, .due] := by
  intro p hp; cases p <;> simp_all [SamePart, State.takeHeartbeatLapse, State.lapseHeartbeat]

theorem takeClockSecond_changes : OnlyChanges s s.takeClockSecond [.timer] := by
  intro p hp; cases p <;> simp_all [SamePart, State.takeClockSecond]

theorem takeAtOnce_changes (d : Due) :
    OnlyChanges s (s.takeAtOnce d) [.controller, .timer, .loader, .report, .due] := by
  cases d <;> first
    | exact .refl _ _
    | exact (takeClockSecond_changes s).mono (by decide)
    | exact (takeDrainConfirmed_changes s _ _).mono (by decide)
    | exact (takeDrainDeadline_changes s _).mono (by decide)
    | exact (takeBeaconStarved_changes s _).mono (by decide)
    | exact (takeHeartbeatLapse_changes s).mono (by decide)

theorem settleAtOnce_changes : OnlyChanges s s.settleAtOnce [.controller, .timer, .loader, .report, .due] := by
  refine OnlyChanges.trans (t := _) ?_ (foldl_onlyChanges _ _ (fun s d => takeAtOnce_changes s d) _ _)
  intro p hp; cases p <;> simp_all [SamePart]

/-- A state with nothing outstanding that is taken at once is left by settling. -/
theorem settleAtOnce_quiet {s : State} (h : Quiet s) : s.settleAtOnce = s := by
  have h1 : s.due.filter Due.atOnce = [] := List.filter_eq_nil_iff.2 (fun d hd => by simp [h d hd])
  have h2 : s.due.filter (fun d => !d.atOnce) = s.due := List.filter_eq_self.2 (fun d hd => by simp [h d hd])
  rw [State.settleAtOnce, h1, h2]
  rfl

/-! ### The window's end -/

theorem measureAll_changes (p : WindowParams) : OnlyChanges s (measureAll p s) [.evaluator] := by
  refine foldl_onlyChanges _ _ (fun s c => ?_) _ _
  rw [measureCarrier]
  split
  · exact setFigures_changes s _ _
  · exact .refl _ _

theorem runProcedure_changes (w : Word32) (b : Bool) : OnlyChanges s (s.runProcedure w b) [.evaluator, .timer, .due] := by
  rw [State.runProcedure]
  split
  · exact .refl _ _
  · rename_i p _
    have h := measureAll_changes s p
    generalize measureAll p s = m at h
    refine (h.mono (by decide)).trans ?_
    intro q hq; cases q <;> simp_all [SamePart]

theorem reportLatchedFault_changes (w : Word32) : OnlyChanges s (s.reportLatchedFault w) [.report] := by
  rw [State.reportLatchedFault]
  split
  · exact .refl _ _
  · dsimp only
    split <;> (intro p hp; cases p <;> simp_all [SamePart])

theorem rewriteStatus_changes (w : Word32) : OnlyChanges s (s.rewriteStatus w) [.report] := by
  rw [State.rewriteStatus]
  split
  · exact .refl _ _
  · split
    · intro p hp; cases p <;> simp_all [SamePart]
    · exact .refl _ _

theorem takeBoundary_changes (w : Word32) (b : Bool) :
    OnlyChanges s (s.takeBoundary w b) [.report, .evaluator, .timer, .due] :=
  ((reportLatchedFault_changes s w).seq (runProcedure_changes _ _ _) (n := [.report, .evaluator, .timer, .due])).seq
    (rewriteStatus_changes _ _)

theorem applyVerdict_changes (v : Verdict) : OnlyChanges s (s.applyVerdict v) [.controller, .report, .arbiter, .due] := by
  rw [State.applyVerdict]
  split
  · split
    · exact (transition_changes_plain s _ _ _ _ (by simp)).mono (by decide)
    · exact .refl _ _
  · split
    · exact (transition_changes_plain s _ _ _ _ (by simp)).mono (by decide)
    · exact .refl _ _
  case h_3 h => exact (transition_changes_plain s _ _ _ _ (by simp [h])).mono (by decide)
  case h_4 h => exact (transition_changes_plain s _ _ _ _ (by simp [h])).mono (by decide)
  · exact queueCarrier_changes s _ _ _
  · exact .refl _ _

theorem decrementBackoff_changes (c : Carrier) : OnlyChanges s (decrementBackoff s c) [.controller] := by
  rw [decrementBackoff]
  split
  · exact setCarrier_changes s _ _
  · exact .refl _ _

theorem takeVerdicts_changes (f : Bool) (l : List Verdict) (n : Nat) :
    OnlyChanges s (s.takeVerdicts f l n) [.controller, .report, .arbiter, .due] := by
  rw [State.takeVerdicts]
  have h1 : OnlyChanges s (if f = true then carriers.foldl decrementBackoff s else s) [.controller] := by
    split
    · exact foldl_onlyChanges _ _ (fun s c => decrementBackoff_changes s c) _ _
    · exact .refl _ _
  generalize (if f = true then carriers.foldl decrementBackoff s else s) = u at h1 ⊢
  have h2 : OnlyChanges u (if n < l.length then { u with due := .verdicts false (l.drop n) :: u.due } else u) [.due] := by
    split
    · intro p hp; cases p <;> simp_all [SamePart]
    · exact .refl _ _
  exact h1.seq (h2.seq (foldl_onlyChanges _ _ (fun s v => applyVerdict_changes s v) _ _)
    (n := [.controller, .report, .arbiter, .due]))

/-! ### Taking up a generation -/

theorem refuseGeneration_changes (r : RefusalReason) (i : Nat) :
    OnlyChanges s (s.refuseGeneration r i) [.loader, .report] := by
  intro p hp; cases p <;> simp_all [SamePart, State.refuseGeneration]

theorem applyCarrier_changes (c : Carrier) (b : Bool) :
    OnlyChanges s (s.applyCarrier c b) [.controller, .evaluator, .report, .arbiter, .due] := by
  have arrive : OnlyChanges s (s.arrive c) [.controller, .evaluator, .report, .arbiter, .due] := by
    rw [State.arrive]
    split
    · exact (setFigures_changes s _ _).seq (queueCarrier_changes _ _ _ _)
    · exact (setFigures_changes s _ _).seq (transition_changes _ _ _ _ _)
  have withdraw : OnlyChanges s (s.withdraw c) [.controller, .evaluator, .report, .arbiter, .due] :=
    (transition_changes s _ _ _ _).seq (setFigures_changes _ _ _)
  rw [State.applyCarrier]
  split
  · split
    · exact arrive
    · exact .refl _ _
  · split
    · exact withdraw
    · split
      · exact (readyLost_changes s _).mono (by decide)
      · exact .refl _ _
  · split
    · exact withdraw
    · exact (queueCarrier_changes s _ _ _).mono (by decide)
  all_goals exact .refl _ _

theorem controllerTakes_changes (p : Policy) :
    OnlyChanges s (s.controllerTakes p) [.controller, .evaluator, .report, .arbiter, .due] := by
  rw [State.controllerTakes]
  refine (OnlyChanges.seq (t := s.copyValues p) (l := [.controller]) ?_
    (foldl_onlyChanges _ _ (fun s' c => applyCarrier_changes s' c _) _ _)
    (n := [.controller, .evaluator, .report, .arbiter, .due])).seq (attempt_changes _)
  intro q hq; cases q <;> simp_all [SamePart, State.copyValues]

/-- A taking up of a generation leaves the ready lines, the outputs of the ports and the commands waiting. -/
theorem takeGeneration_changes :
    OnlyChanges s s.takeGeneration
      [.controller, .timer, .transit, .monitor, .evaluator, .arbiter, .loader, .report, .due] := by
  rw [State.takeGeneration]
  split
  · split
    · exact (refuseGeneration_changes s _ _).mono (by decide)
    · rw [State.applyGeneration]
      have base : ∀ s : State, ∀ p, OnlyChanges s (s.beginWindows.evaluatorTakes p |>.install p)
          [.timer, .evaluator, .loader] := by
        intro s p q hq
        rw [State.beginWindows]
        split <;> rw [State.evaluatorTakes] <;> dsimp only <;> split <;> (try split) <;>
          cases q <;> simp_all [SamePart, State.install]
      have ring : ∀ s : State, ∀ p, OnlyChanges s (s.takeRing p) [.report] := by
        intro s p
        rw [State.takeRing]
        split
        · exact .refl _ _
        · intro q hq; cases q <;> simp_all [SamePart]
      have mid : ∀ s : State, ∀ p, OnlyChanges s ((s.transitTakes p).monitorTakes p) [.transit, .monitor] := by
        intro s p q hq; cases q <;> simp_all [SamePart, State.transitTakes, State.monitorTakes]
      have last : ∀ s : State, ∀ b o n, OnlyChanges s ((s.timerTakes b).heartbeatTakes o n)
          [.timer, .due, .loader, .report] := by
        intro s b o n
        refine OnlyChanges.trans (t := s.timerTakes b) ?_ ?_
        · intro q hq
          rw [State.timerTakes]
          split <;> split <;> cases q <;> simp_all [SamePart]
        · generalize s.timerTakes b = u
          intro q hq
          rw [State.heartbeatTakes.eq_def]
          split
          · cases q <;> simp_all [SamePart]
          · split
            · split <;> cases q <;> simp_all [SamePart]
            · split
              · dsimp only
                split <;> cases q <;> simp_all [SamePart]
              · cases q <;> simp_all [SamePart]
      exact ((((base _ _).mono (by decide)).trans ((ring _ _).mono (by decide))).trans
        (((hand_changes _ _).mono (by decide)).trans (((mid _ _).mono (by decide)).trans
        ((controllerTakes_changes _ _).mono (by decide))))).trans ((last _ _ _ _).mono (by decide))
  · exact .refl _ _

end Sys2Proof.Machine
end

