-- ==== Sys2Proof/Laws/FramesPorts.lean ====
section
/-! SUPPORT. The parts of the state that ticks, the two ports, and the taking of outstanding events can change. -/

namespace Sys2Proof.Machine

variable (s : State)

/-! ### Ticks -/

theorem carrierTick_changes (b : Bool) (f : List Carrier) (c : Carrier) :
    OnlyChanges s (carrierTick b f s c) [.monitor, .evaluator, .controller, .due] := by
  rw [carrierTick]
  split
  · split <;> (intro p hp; cases p <;> simp_all [SamePart])
  · intro p hp; cases p <;> simp_all [SamePart]

theorem slotsTick_changes (b : Bool) (f : List Carrier) :
    OnlyChanges s (s.slotsTick b f) [.monitor, .evaluator, .controller, .due] :=
  foldl_onlyChanges _ _ (fun s c => carrierTick_changes s b f c) _ _

theorem arbiterTick_changes : OnlyChanges s s.arbiterTick [.arbiter, .due] := by
  rw [State.arbiterTick]
  split <;> (intro p hp; cases p <;> simp_all [SamePart])

theorem heartbeatTick_changes : OnlyChanges s s.heartbeatTick [.loader, .due] := by
  rw [State.heartbeatTick]
  split
  · exact .refl _ _
  · dsimp only
    split <;> (intro p hp; cases p <;> simp_all [SamePart])

theorem clockTick_changes : OnlyChanges s s.clockTick [.timer, .due] := by
  rw [State.clockTick]
  split
  · dsimp only
    split <;> (intro p hp; cases p <;> simp_all [SamePart])
  · exact .refl _ _

theorem windowTick_changes (b : Bool) : OnlyChanges s (s.windowTick b) [.timer] := by
  rw [State.windowTick]
  split
  · exact .refl _ _
  · split <;> (intro p hp; cases p <;> simp_all [SamePart])

theorem ite_onlyChanges {s t u : State} {l : List Part} (q : Bool) (h : OnlyChanges s t l) (k : OnlyChanges s u l) :
    OnlyChanges s (if q = true then t else u) l := by
  cases q
  · exact k
  · exact h

theorem takeEarlyLapse_changes : OnlyChanges s s.takeEarlyLapse inner := by
  have due : ∀ (u : State) (l : List Due), OnlyChanges u { u with due := l } inner := by
    intro u l p hp; cases p <;> simp_all [SamePart, inner]
  rw [State.takeEarlyLapse]
  split
  · exact (((settleAtOnce_changes s).mono (by decide)).trans (due _ _)).trans ((takeFailSafe_changes _ _).mono (by decide))
  · exact .refl _ _

theorem firstTakings_changes (b sw aw lf : Bool) : OnlyChanges s (s.firstTakings b sw aw lf) inner := by
  have h : OnlyChanges s ((s.clockTick.windowTick b).heartbeatTick) inner :=
    ((clockTick_changes s).seq (windowTick_changes _ _) (n := [.timer, .due])).seq (heartbeatTick_changes _) (n := inner)
  rw [State.firstTakings]
  generalize (s.clockTick.windowTick b).heartbeatTick = t at h
  exact ((h.trans (ite_onlyChanges lf (takeEarlyLapse_changes _) (.refl _ _))).trans (ite_onlyChanges sw (.refl _ _) ((slotsTick_changes _ _ _).mono (by decide)))).trans
    (ite_onlyChanges aw (.refl _ _) ((arbiterTick_changes _).mono (by decide)))

theorem lateTakings_changes (b : Bool) (o : TickOrder) : OnlyChanges s (s.lateTakings b o) inner := by
  have h : OnlyChanges s s.settleAtOnce.takeGeneration inner :=
    ((settleAtOnce_changes _).mono (by decide)).trans ((takeGeneration_changes _).mono (by decide))
  rw [State.lateTakings]
  generalize s.settleAtOnce.takeGeneration = t at h
  exact (h.trans (ite_onlyChanges _ ((slotsTick_changes _ _ _).mono (by decide)) (.refl _ _))).trans
    (ite_onlyChanges _ ((arbiterTick_changes _).mono (by decide)) (.refl _ _))

theorem handTick_changes (b : Bool) (o : TickOrder) : OnlyChanges s (s.handTick b o) inner := by
  have due : ∀ (u : State) (l : List Due), OnlyChanges u { u with due := l } inner := by
    intro u l p hp; cases p <;> simp_all [SamePart, inner]
  rw [State.handTick]
  split
  · exact ((firstTakings_changes s _ _ _ _).trans (lateTakings_changes _ _ _)).trans (due _ _)
  · exact (firstTakings_changes s _ _ _ _).trans (due _ _)

theorem takeExternalTick_changes (b : Bool) (o : TickOrder) : OnlyChanges s (s.takeExternalTick b o) inner := by
  have adv : ∀ s : State, OnlyChanges s s.advanceSlot inner := by
    intro s p hp; cases p <;> simp_all [SamePart, inner, State.advanceSlot]
  have lock : ∀ s : State, OnlyChanges s s.lockTimer inner := by
    intro s p hp; cases p <;> simp_all [SamePart, inner, State.lockTimer]
  have slip : ∀ s : State, OnlyChanges s s.slip inner := by
    intro s p hp; cases p <;> simp_all [SamePart, inner, State.slip]
  rw [State.takeExternalTick.eq_def]
  split
  · exact (adv s).trans (handTick_changes _ _ _)
  · exact (lock s).trans (handTick_changes _ _ _)
  · exact (adv s).trans (handTick_changes _ _ _)
  · split
    · exact (adv s).trans (handTick_changes _ _ _)
    · exact (slip s).trans (handTick_changes _ _ _)
  · exact .refl _ _
  · exact (lock s).trans (handTick_changes _ _ _)

theorem takeLocalTick_changes (o : TickOrder) : OnlyChanges s (s.takeLocalTick o) inner := by
  refine OnlyChanges.trans (t := _) ?_ (handTick_changes _ _ _)
  intro p hp; cases p <;> simp_all [SamePart, inner]

theorem enterHoldover_changes : OnlyChanges s s.enterHoldover [.timer, .monitor, .report] := by
  intro p hp; cases p <;> simp_all [SamePart, State.enterHoldover]

theorem takeTickLoss_changes : OnlyChanges s s.takeTickLoss inner := by
  rw [State.takeTickLoss.eq_def]
  split
  · exact (((enterHoldover_changes s).mono (by decide)).trans ((takeFailSafe_changes _ _).mono (by decide))).trans
      (takeLocalTick_changes _ _)
  · exact (((enterHoldover_changes s).mono (by decide)).trans ((takeFailSafe_changes _ _).mono (by decide))).trans
      (takeLocalTick_changes _ _)
  · exact .refl _ _

/-! ### Outstanding events -/

theorem takeDue_changes (d : Due) : OnlyChanges s (s.takeDue d) inner := by
  cases d
  · exact (takeClockSecond_changes s).mono (by decide)
  · exact (takeDrainConfirmed_changes s _ _).mono (by decide)
  · exact (takeDrainDeadline_changes s _).mono (by decide)
  · exact (takeBeaconStarved_changes s _).mono (by decide)
  · exact (takeHeartbeatLapse_changes s).mono (by decide)
  · exact (takeReadyNotice_changes s _).mono (by decide)
  · exact (takeWarmupExpiry_changes s _).mono (by decide)
  · exact (attempt_changes s).mono (by decide)
  · exact (takeBoundary_changes s _ _).mono (by decide)
  · exact (takeGeneration_changes s).mono (by decide)
  · exact (takeVerdicts_changes s _ _ _).mono (by decide)
  · exact (takeGrant_changes s _).mono (by decide)
  · exact (takeDemand_changes s _ _).mono (by decide)
  · exact (takeFailSafe_changes s _).mono (by decide)
  · exact takeTickLoss_changes s

theorem dropDue_changes (l : List Due) : OnlyChanges s { s with due := l } [.due] := by
  intro p hp; cases p <;> simp_all [SamePart]

theorem takeSteps_changes (next : List Due → Option (Due × List Due)) (n : Nat) : OnlyChanges s (takeSteps next n s) inner := by
  induction n generalizing s with
  | zero => exact .refl _ _
  | succ n ih =>
    rw [takeSteps]
    split
    · exact .refl _ _
    · exact (((dropDue_changes s _).mono (by decide)).trans (takeDue_changes _ _)).trans (ih _)

theorem settle_changes (w : Bool) : OnlyChanges s (s.settle w) inner := takeSteps_changes s _ _

/-- A state with nothing outstanding is left by settling. -/
theorem settle_nothing {s : State} (h : s.due = []) (w : Bool) : s.settle w = s := by
  simp [State.settle, h, takeSteps, nextDue, firstDue]

theorem takeDrains_changes : OnlyChanges s s.takeDrains inner := takeSteps_changes s _ _

theorem firstDue_none {which : Due → Bool} {l : List Due} (h : ∀ d ∈ l, which d = false) : firstDue which l = none := by
  induction l with
  | nil => rfl
  | cons d rest ih => simp_all [firstDue]

/-- A picked event that `next` does not find ends the taking. -/
theorem takeSteps_none {s : State} {next : List Due → Option (Due × List Due)} (h : next s.due = none) (n : Nat) :
    takeSteps next n s = s := by
  cases n <;> simp [takeSteps, h]

theorem takeNamed_changes (which : Due → Bool) : OnlyChanges s (s.takeNamed which) inner := by
  rw [State.takeNamed]
  split
  · exact ((dropDue_changes s _).mono (by decide)).trans (takeDue_changes _ _)
  · exact .refl _ _

/-! ### The two ports -/

theorem handDescriptor_changes (c : Carrier) (m : Master) (a : Address) (b : Beat) :
    OnlyChanges s (s.handDescriptor c m a b) [.report, .monitor, .due] := by
  rw [State.handDescriptor.eq_def]
  split
  · exact .refl _ _
  · exact (latchFault_changes s _).mono (by decide)
  · dsimp only
    split
    · exact (setHeld_changes s _ _).seq (addDue_changes _ _)
    · exact (setHeld_changes s _ _).mono (by decide)

theorem handCell_changes (c : Carrier) (r : Request) (n : Nat) :
    OnlyChanges s (s.handCell c r n) [.report, .monitor, .due] := by
  rw [State.handCell]
  split
  · exact handDescriptor_changes s _ _ _ _
  · exact .refl _ _

theorem heartbeatWord_changes : OnlyChanges s s.heartbeatWord [.loader, .report] := by
  rw [State.heartbeatWord]
  split
  · exact .refl _ _
  · split <;> (intro p hp; cases p <;> simp_all [SamePart])

theorem consumerWord_changes (a : Address) : OnlyChanges s (s.consumerWord a) [.report] := by
  rw [State.consumerWord]
  split
  · exact .refl _ _
  · split
    · intro p hp; cases p <;> simp_all [SamePart]
    · exact latchFault_changes s _

theorem clockSetWord_changes (a : Address) : OnlyChanges s (s.clockSetWord a) [.timer, .report] := by
  rw [State.clockSetWord]
  dsimp only
  split
  · intro p hp; cases p <;> simp_all [SamePart]
  · split
    · intro p hp; cases p <;> simp_all [SamePart]
    · exact (latchFault_changes s _).mono (by decide)

theorem takePolicyWrite_changes (o : Nat) (a : Address) (d : List Beat) :
    OnlyChanges s (s.takePolicyWrite o a d) [.loader, .timer, .controller, .report, .arbiter, .due] := by
  rw [State.takePolicyWrite]
  dsimp only
  have h0 : OnlyChanges s { s with loader := { s.loader with mirror := mergeBeats s.loader.mirror o d } }
      [.loader, .timer, .controller, .report, .arbiter, .due] := by
    intro p hp; cases p <;> simp_all [SamePart]
  generalize { s with loader := { s.loader with mirror := mergeBeats s.loader.mirror o d } } = t at h0
  have step : ∀ (u v : State) (q : Bool), OnlyChanges u v [.loader, .timer, .controller, .report, .arbiter, .due] →
      OnlyChanges u (if q then v else u) [.loader, .timer, .controller, .report, .arbiter, .due] := by
    intro u v q h
    split
    · exact h
    · exact .refl _ _
  exact (((h0.trans (step _ _ _ ((heartbeatWord_changes _).mono (by decide)))).trans
    (step _ _ _ ((consumerWord_changes _ _).mono (by decide)))).trans
    (step _ _ _ ((clockSetWord_changes _ _).mono (by decide)))).trans
    (step _ _ _ ((wakeAll_changes _ _ _ _).mono (by decide)))

theorem handWrite_changes (r : Request) :
    OnlyChanges s (s.handWrite r) [.loader, .timer, .controller, .report, .arbiter, .due, .monitor] := by
  rw [State.handWrite.eq_def]
  split
  · split
    · exact (takePolicyWrite_changes s _ _ _).mono (by decide)
    · exact .refl _ _
  · split
    · exact (handCell_changes s _ _ _).seq (handCell_changes _ _ _ _)
    · exact .refl _ _
  all_goals exact .refl _ _

theorem answerLocals_changes : OnlyChanges s s.answerLocals [.transit, .outputs] := by
  intro p hp; cases p <;> simp_all [SamePart, State.answerLocals]

theorem takeRequest_changes (r : Request) : OnlyChanges s (s.takeRequest r) ports := by
  rw [State.takeRequest]
  have h0 : OnlyChanges s { s with transit := { s.transit with turn := .upstream } } ports := by
    intro p hp; cases p <;> simp_all [SamePart, ports, inner]
  dsimp only
  split
  · refine h0.trans ?_
    generalize { s with transit := { s.transit with turn := .upstream } } = t
    rw [State.forwardRequest]
    refine ((send_changes t r).mono (by decide)).trans (OnlyChanges.trans (t := _) ?_ ((appendEntry_changes _ _).mono (by decide)))
    split
    · exact .refl _ _
    · exact (handWrite_changes _ _).mono (by decide)
  · refine h0.trans ?_
    generalize { s with transit := { s.transit with turn := .upstream } } = t
    rw [State.refuseRequest]
    exact (((latchFault_changes t _).mono (by decide)).trans ((appendEntry_changes _ _).mono (by decide))).trans
      ((answerLocals_changes _).mono (by decide))

theorem grantReport_changes : OnlyChanges s s.grantReport [.transit, .report, .outputs] := by
  rw [State.grantReport.eq_def]
  split
  · intro p hp; cases p <;> simp_all [SamePart]
  · exact .refl _ _

theorem grantSide_changes (d : Side) : OnlyChanges s (s.grantSide d) ports := by
  rw [State.grantSide.eq_def]
  split
  · exact (grantReport_changes s).mono (by decide)
  · split
    · exact .refl _ _
    · refine OnlyChanges.trans (t := _) ?_ (takeRequest_changes _ _)
      intro p hp; cases p <;> simp_all [SamePart, ports, inner]

theorem arbitrate_changes (d : Side) : OnlyChanges s (s.arbitrate d) ports := by
  rw [State.arbitrate]
  split
  · exact .refl _ _
  · dsimp only
    split
    · exact grantSide_changes s _
    · split
      · exact grantSide_changes s _
      · exact (grantSide_changes s _).trans (grantSide_changes _ _)

theorem policyMasterWrites_changes (o : Nat) (d : List Beat) : OnlyChanges s (s.policyMasterWrites o d) ports :=
  ((present_changes s _).mono (by decide)).trans (arbitrate_changes _ _)

theorem reportAnswered_changes (f : ReportForm) (r : ResponseStatus) : OnlyChanges s (s.reportAnswered f r) [.report] := by
  rw [State.reportAnswered.eq_def]
  split
  · intro p hp; cases p <;> simp_all [SamePart]
  · exact .refl _ _

theorem takeResponse_changes (r : ResponseStatus) (b : List BeatData) :
    OnlyChanges s (s.takeResponse r b) [.transit, .report, .outputs] := by
  rw [State.takeResponse]
  split
  · intro p hp; cases p <;> simp_all [SamePart]
  · split
    · exact .refl _ _
    · split
      · exact .refl _ _
      · refine OnlyChanges.trans (t := _) ?_ ((answerLocals_changes _).mono (by decide))
        rw [State.answerHead]
        rename_i e rest _ _ _
        have h0 : OnlyChanges s { s with transit := { s.transit with inFlight := rest } } [.transit, .report, .outputs] := by
          intro p hp; cases p <;> simp_all [SamePart]
        generalize { s with transit := { s.transit with inFlight := rest } } = t at h0
        split
        · exact h0.trans ((reportAnswered_changes _ _ _).mono (by decide))
        · split
          · exact h0
          · exact h0.trans ((answer_changes _ _).mono (by decide))

/-! ### Fabric reset and idling -/

theorem orderedFabricReset_changes (o : ResetOrder) :
    OnlyChanges s (s.orderedFabricReset o) [.controller, .report, .arbiter, .due, .loader] := by
  have a : ∀ s : State, OnlyChanges s (s.takeFailSafe .fabricReset) [.controller, .report, .arbiter, .due, .loader] :=
    fun s => (takeFailSafe_changes s _).mono (by decide)
  have b : ∀ s : State, OnlyChanges s s.loaderFabricReset [.controller, .report, .arbiter, .due, .loader] := by
    intro s
    rw [State.loaderFabricReset]
    split
    · exact (takeHeartbeatLapse_changes s).mono (by decide)
    · exact .refl _ _
  have d : ∀ s : State, OnlyChanges s s.reportFabricReset [.controller, .report, .arbiter, .due, .loader] := by
    intro s p hp; cases p <;> simp_all [SamePart, State.reportFabricReset]
  have e : ∀ s : State, ∀ x, OnlyChanges s (s.addDue x) [.controller, .report, .arbiter, .due, .loader] :=
    fun s x => (addDue_changes s x).mono (by decide)
  cases o <;> rw [State.orderedFabricReset]
  · exact ((a _).trans (b _)).trans (d _)
  · exact ((a _).trans (d _)).trans (b _)
  · exact ((b _).trans (a _)).trans (d _)
  · exact ((d _).trans (a _)).trans (b _)
  · exact ((b _).trans (d _)).trans (e _ _)
  · exact ((d _).trans (b _)).trans (e _ _)

theorem idle_changes : OnlyChanges s s.idle ports := by
  rw [State.idle]
  split
  · exact ((dropDue_changes s _).mono (by decide)).trans ((takeDue_changes _ _).mono (by decide))
  · split
    · exact grantSide_changes s _
    · split
      · exact (takeTickLoss_changes s).mono (by decide)
      · split
        · exact (takeLocalTick_changes s _).mono (by decide)
        · rw [State.passTime.eq_def]
          split <;> (intro p hp; cases p <;> simp_all [SamePart, ports, inner])

end Sys2Proof.Machine
end

