-- ==== Sys2Proof/Laws/Carriers.lean ====
section
/-! SUPPORT. What the operations at the Carrier Controller do with the record, the figures and the events of a carrier. -/

namespace Sys2Proof.Machine

/-! ### What a frame says of the tables -/

theorem OnlyChanges.controller {s t : State} {l : List Part} (h : OnlyChanges s t l) (hp : Part.controller ∉ l := by decide) :
    t.controller = s.controller := h .controller hp

theorem OnlyChanges.timer {s t : State} {l : List Part} (h : OnlyChanges s t l) (hp : Part.timer ∉ l := by decide) :
    t.timer = s.timer := h .timer hp

theorem OnlyChanges.transit {s t : State} {l : List Part} (h : OnlyChanges s t l) (hp : Part.transit ∉ l := by decide) :
    t.transit = s.transit := h .transit hp

theorem OnlyChanges.monitor {s t : State} {l : List Part} (h : OnlyChanges s t l) (hp : Part.monitor ∉ l := by decide) :
    t.monitor = s.monitor := h .monitor hp

theorem OnlyChanges.evaluator {s t : State} {l : List Part} (h : OnlyChanges s t l) (hp : Part.evaluator ∉ l := by decide) :
    t.evaluator = s.evaluator := h .evaluator hp

theorem OnlyChanges.arbiter {s t : State} {l : List Part} (h : OnlyChanges s t l) (hp : Part.arbiter ∉ l := by decide) :
    t.arbiter = s.arbiter := h .arbiter hp

theorem OnlyChanges.loader {s t : State} {l : List Part} (h : OnlyChanges s t l) (hp : Part.loader ∉ l := by decide) :
    t.loader = s.loader := h .loader hp

theorem OnlyChanges.report {s t : State} {l : List Part} (h : OnlyChanges s t l) (hp : Part.report ∉ l := by decide) :
    t.report = s.report := h .report hp

theorem OnlyChanges.due {s t : State} {l : List Part} (h : OnlyChanges s t l) (hp : Part.due ∉ l := by decide) :
    t.due = s.due := h .due hp

theorem OnlyChanges.carrier {s t : State} {l : List Part} (h : OnlyChanges s t l) (c : Carrier)
    (hp : Part.controller ∉ l := by decide) : t.carrier c = s.carrier c := by
  rw [State.carrier, State.carrier, h.controller hp]

theorem OnlyChanges.figures {s t : State} {l : List Part} (h : OnlyChanges s t l) (c : Carrier)
    (hp : Part.evaluator ∉ l := by decide) : t.figures c = s.figures c := by
  rw [State.figures, State.figures, h.evaluator hp]

theorem OnlyChanges.held {s t : State} {l : List Part} (h : OnlyChanges s t l) (c : Carrier)
    (hp : Part.monitor ∉ l := by decide) : t.held c = s.held c := by
  rw [State.held, State.held, h.monitor hp]

theorem OnlyChanges.readyLevel {s t : State} {l : List Part} (h : OnlyChanges s t l) (c : Carrier)
    (hp : Part.readyLines ∉ l := by decide) : t.readyLevel c = s.readyLevel c := by
  have := h .readyLines hp
  rw [State.readyLevel, State.readyLevel, this]

/-! ### Naming an outstanding event -/

theorem takeNamed_found {s : State} {which : Due → Bool} {d : Due} {rest : List Due}
    (h : firstDue which s.due = some (d, rest)) : s.takeNamed which = State.takeDue { s with due := rest } d := by
  rw [State.takeNamed, h]

theorem takeNamed_none {s : State} {which : Due → Bool} (h : firstDue which s.due = none) : s.takeNamed which = s := by
  rw [State.takeNamed, h]

/-! ### Transitions -/

variable (s : State) (c d : Carrier)

theorem transition_carrier (st : CarrierState) (k : Cause) (q : Option WakeClass) :
    (s.transition c st k q).carrier d = if c = d then (s.carrier c).enter st q else s.carrier d := by
  rw [State.transition]
  split <;> simp [carrier_setCarrier]

theorem transition_carrier_same (st : CarrierState) (k : Cause) (q : Option WakeClass) :
    (s.transition c st k q).carrier c = (s.carrier c).enter st q := by
  simp [transition_carrier]

theorem transition_othersKept (st : CarrierState) (k : Cause) (q : Option WakeClass) :
    OthersKept s (s.transition c st k q) c := by
  intro d hd
  rw [transition_carrier, if_neg (Ne.symm hd)]

theorem transition_figures (st : CarrierState) (k : Cause) (q : Option WakeClass) :
    (s.transition c st k q).figures d =
      if (s.carrier c).state = .warming ∧ st = .on ∧ c = d then (s.figures c).full else s.figures d := by
  rw [State.transition]
  by_cases h : (s.carrier c).state = .warming ∧ st = .on
  · rw [if_pos h]; simp [figures_setFigures, h]
  · rw [if_neg h, if_neg (by tauto)]; simp

theorem transition_handed (st : CarrierState) (k : Cause) (q : Option WakeClass) :
    Handed s (s.transition c st k q) (.stateChange c (s.carrier c).state st k q) := by
  rw [State.transition, Handed]
  split <;> rfl

theorem enter_values (r : CarrierRecord) (st : CarrierState) (q : Option WakeClass) : (r.enter st q).values = r.values := by
  cases st <;> rfl

theorem enter_state (r : CarrierRecord) (st : CarrierState) (q : Option WakeClass) : (r.enter st q).state = st := by
  cases st <;> rfl

/-! ### Wakes -/

theorem enqueue_carrier (q : WakeClass) : (s.enqueue c q).carrier d = s.carrier d := (enqueue_changes s c q).carrier d

theorem raiseEntry_carrier (q : WakeClass) : (s.raiseEntry c q).carrier d = s.carrier d := (raiseEntry_changes s c q).carrier d

theorem release_carrier : (s.release c).carrier d = s.carrier d := (release_changes s c).carrier d

theorem queueCarrier_carrier (k : Cause) (q : WakeClass) :
    (s.queueCarrier c k q).carrier d =
      if c = d then { s.carrier c with state := .queued, queuedClass := some q } else s.carrier d := by
  rw [State.queueCarrier, enqueue_carrier, transition_carrier]; rfl

theorem raiseClass_carrier (k : Cause) (q : WakeClass) :
    (s.raiseClass c k q).carrier d =
      if c = d then { s.carrier c with
        queuedClass := (s.carrier c).queuedClass.map (fun old => if q.rank < old.rank then q else old) } else s.carrier d := by
  rw [State.raiseClass]
  split
  case h_1 h =>
    split
    case isTrue e => subst e; simp only [h, Option.map_none]; rw [← h]
    case isFalse => rfl
  case h_2 old h =>
    split
    case isTrue e => rw [raiseEntry_carrier]; simp [carrier_setCarrier, h, e]
    case isFalse e =>
      split
      case isTrue f => subst f; simp only [h, Option.map_some, if_neg e]; rw [← h]
      case isFalse => rfl

/-- A wake leaves every carrier but its own, and its own as `woken` says (R16, R19, R20, R23). -/
theorem wake_carrier (k : Cause) (q : WakeClass) :
    (s.wake c k q).carrier d = if c = d then (s.carrier c).woken q else s.carrier d := by
  rw [State.wake, CarrierRecord.woken.eq_def]
  cases h : (s.carrier c).state <;> dsimp only
  case draining => rw [transition_carrier]; rfl
  case light => rw [transition_carrier]; rfl
  case deep => rw [queueCarrier_carrier]
  case queued => rw [raiseClass_carrier]; simp only [h]
  all_goals split
  all_goals first | rfl | (rename_i e; rw [e])

theorem woken_values (r : CarrierRecord) (q : WakeClass) : (r.woken q).values = r.values := by
  rw [CarrierRecord.woken.eq_def]; split <;> rfl

/-- No carrier that has been woken drains or sleeps. -/
theorem woken_awake (r : CarrierRecord) (q : WakeClass) : (r.woken q).state.sleeping = false := by
  rw [CarrierRecord.woken.eq_def]; split <;> simp_all [CarrierState.sleeping]

theorem wakeFold_carrier (which : State → Carrier → Bool) (k : Cause) (q : WakeClass)
    (hw : ∀ (t : State) (e : Carrier), (∀ f, (t.carrier f).values = (s.carrier f).values) → t.loader = s.loader →
      which t e = which s e) (l : List Carrier) (hl : l.Nodup) (t : State)
    (hv : ∀ f, (t.carrier f).values = (s.carrier f).values) (ho : t.loader = s.loader) :
    ((l.foldl (fun s c => if which s c then s.wake c k q else s) t)).carrier d =
      if d ∈ l ∧ which s d = true then (t.carrier d).woken q else t.carrier d := by
  induction l generalizing t with
  | nil => simp
  | cons a l ih =>
    rw [List.nodup_cons] at hl
    rw [List.foldl_cons]
    rw [hw t a hv ho]
    by_cases h : which s a = true
    · rw [if_pos h]
      have hv' : ∀ f, ((t.wake a k q).carrier f).values = (s.carrier f).values := by
        intro f; rw [wake_carrier]; split
        · rename_i e; subst e; rw [woken_values]; exact hv a
        · exact hv f
      rw [ih hl.2 _ hv' ((wake_changes t a k q).loader.trans ho)]
      rw [wake_carrier]
      by_cases e : a = d
      · subst e; simp [hl.1, h]
      · simp [e, Ne.symm e]
    · rw [if_neg h, ih hl.2 t hv ho]
      by_cases e : a = d
      · subst e; simp [hl.1, h]
      · simp [Ne.symm e]

theorem carriers_nodup : carriers.Nodup := List.nodup_finRange 24

/-- Every carrier picked is woken and every other is left, where the picking reads only values and the Policy Loader. -/
theorem wakeAll_carrier (which : State → Carrier → Bool) (k : Cause) (q : WakeClass)
    (hw : ∀ (t : State) (e : Carrier), (∀ f, (t.carrier f).values = (s.carrier f).values) → t.loader = s.loader →
      which t e = which s e) :
    (s.wakeAll which k q).carrier d = if which s d = true then (s.carrier d).woken q else s.carrier d := by
  rw [State.wakeAll, wakeFold_carrier s d which k q hw carriers carriers_nodup s (fun _ => rfl) rfl]
  simp [mem_carriers]

/-- A fail-safe cause wakes exactly the present capacity carriers (R20). -/
theorem takeFailSafe_carrier (f : FailSafe) :
    (s.takeFailSafe f).carrier d = if s.isCapacity d = true then (s.carrier d).woken .urgent else s.carrier d := by
  refine wakeAll_carrier s d _ _ _ (fun t e hv _ => ?_)
  rw [State.isCapacity, State.isCapacity, hv]

/-- The anchor-lost cascade wakes exactly the present capacity carriers of the sector (R16). -/
theorem cascade_carrier (k : Nat) :
    (s.cascade k).carrier d =
      if s.isCapacity d = true ∧ (s.carrier d).values.sector = k then (s.carrier d).woken .urgent else s.carrier d := by
  rw [State.cascade, wakeAll_carrier]
  · simp [Bool.and_eq_true]
  · intro t e hv _; rw [State.isCapacity, State.isCapacity, hv]

/-! ### Ends of warm-ups -/

/-- What is reached before the attempt that ends a warm-up's taking (R133). -/
def State.endedWarmup (s : State) (c : Carrier) (st : CarrierState) (k : Cause) : State :=
  { (s.dropExpiry c).transition c st k none with
    arbiter := { s.arbiter with charged := s.arbiter.charged.filter (fun p => p.1 != c) } }

theorem endWarmup_eq (st : CarrierState) (k : Cause) : s.endWarmup c st k = (s.endedWarmup c st k).attempt := by
  have h := (transition_changes (s.dropExpiry c) c st k none).arbiter
  rw [State.endWarmup, State.release, State.endedWarmup, h]
  rfl

theorem endedWarmup_carrier (st : CarrierState) (k : Cause) :
    (s.endedWarmup c st k).carrier d = if c = d then (s.carrier c).enter st none else s.carrier d :=
  transition_carrier (s.dropExpiry c) c d st k none

theorem endedWarmup_figures (st : CarrierState) (k : Cause) :
    (s.endedWarmup c st k).figures d =
      if (s.carrier c).state = .warming ∧ st = .on ∧ c = d then (s.figures c).full else s.figures d :=
  transition_figures (s.dropExpiry c) c d st k none

theorem endedWarmup_due (st : CarrierState) (k : Cause) :
    (s.endedWarmup c st k).due = s.due.filter (fun e => e != .warmupExpiry c) :=
  (transition_changes (s.dropExpiry c) c st k none).due

theorem endedWarmup_handed (st : CarrierState) (k : Cause) :
    Handed s (s.endedWarmup c st k) (.stateChange c (s.carrier c).state st k none) :=
  transition_handed (s.dropExpiry c) c st k none

theorem endedWarmup_changes (st : CarrierState) (k : Cause) :
    OnlyChanges s (s.endedWarmup c st k) [.controller, .evaluator, .report, .arbiter, .due] := by
  refine OnlyChanges.seq (m := [.arbiter]) ((dropExpiry_changes s c).seq (transition_changes _ c st k none)
    (n := [.controller, .evaluator, .report, .due])) ?_
  intro p hp; cases p <;> simp_all [SamePart, State.endedWarmup]

end Sys2Proof.Machine
end

