-- ==== Sys2Proof/Laws/Arbiter.lean ====
section
/-! SUPPORT. What an attempt at the Warm-up Arbiter can do, and the records that a wake hands. -/

namespace Sys2Proof.Machine

/-! ### Attempts -/

/-- Attempts make some grants and do nothing else: each granted entry leaves the queue, charges the carrier's weight and is
handed on; the spacing timer is set by any grant, and while it runs there is none (R122, R123). -/
theorem attempts_grants (n : Nat) (s : State) : ∃ granted : List WakeEntry,
    (attempts n s).due = s.due ++ granted.map (fun g => .grant g.carrier)
    ∧ (attempts n s).arbiter.charged = s.arbiter.charged ++ granted.map (fun g => (g.carrier, (s.carrier g.carrier).values.weight))
    ∧ (attempts n s).arbiter.spacing = (if granted = [] then s.arbiter.spacing else s.globals.spacing)
    ∧ (s.arbiter.spacing ≠ 0 → granted = [])
    ∧ (granted ++ (attempts n s).arbiter.queue).Perm s.arbiter.queue
    ∧ (attempts n s).arbiter.ordinal = s.arbiter.ordinal := by
  induction n generalizing s with
  | zero => exact ⟨[], by simp [attempts]⟩
  | succ n ih =>
    rw [attempts]
    split
    · exact ⟨[], by simp⟩
    · next e he =>
      split
      · next hg =>
        obtain ⟨granted, hd, hc, hs, -, hq, ho⟩ := ih (s.makeGrant e)
        have hm : e ∈ s.arbiter.queue := List.mem_of_find?_eq_some he
        have h0 : s.arbiter.spacing = 0 := by simp [State.grantable] at hg; exact hg.2
        refine ⟨e :: granted, ?_, ?_, ?_, fun h => absurd h0 h, ?_, ho⟩
        · rw [hd]; simp [State.makeGrant]
        · rw [hc, List.map_cons, List.append_cons]; rfl
        · rw [hs]; simp only [reduceCtorEq, if_false]; split <;> rfl
        · exact (hq.cons e).trans (List.perm_cons_erase hm).symm
      · exact ⟨[], by simp⟩

/-- What one attempt can do is what `attempts_grants` says. -/
theorem attempt_grants (s : State) : ∃ granted : List WakeEntry,
    s.attempt.due = s.due ++ granted.map (fun g => .grant g.carrier)
    ∧ s.attempt.arbiter.charged = s.arbiter.charged ++ granted.map (fun g => (g.carrier, (s.carrier g.carrier).values.weight))
    ∧ s.attempt.arbiter.spacing = (if granted = [] then s.arbiter.spacing else s.globals.spacing)
    ∧ (s.arbiter.spacing ≠ 0 → granted = [])
    ∧ (granted ++ s.attempt.arbiter.queue).Perm s.arbiter.queue
    ∧ s.attempt.arbiter.ordinal = s.arbiter.ordinal := attempts_grants _ s

/-- Placing an entry adds it and nothing else (R118). -/
theorem placeEntry_perm (e : WakeEntry) (l : List WakeEntry) : (placeEntry e l).Perm (e :: l) := by
  induction l with
  | nil => rfl
  | cons f l ih =>
    rw [placeEntry]
    split
    · rfl
    · exact (ih.cons f).trans (List.Perm.swap e f l)

/-! ### Records handed -/

@[simp] theorem handAll_nil (u : ReportUnit) (s : State) : u.handAll s [] = u := rfl

@[simp] theorem handAll_cons (u : ReportUnit) (s : State) (b : RecordBody) (l : List RecordBody) :
    u.handAll s (b :: l) = (u.hand (s.makeRecord s.timer.windowNumber b)).handAll s l := rfl

theorem handAll_append (u : ReportUnit) (s : State) (l m : List RecordBody) :
    u.handAll s (l ++ m) = (u.handAll s l).handAll s m := List.foldl_append ..

/-- Records are headed by the Slot Timer alone. -/
theorem handAll_timer {s t : State} (u : ReportUnit) (l : List RecordBody) (h : t.timer = s.timer) :
    u.handAll t l = u.handAll s l := by
  simp only [ReportUnit.handAll, State.makeRecord, h]

/-- A wake hands the record that the carrier's state calls for, or none (R10). -/
theorem wake_report (s : State) (c : Carrier) (k : Cause) (q : WakeClass) :
    (s.wake c k q).report = s.report.handAll s ((s.carrier c).wakeBody c k q).toList := by
  rw [State.wake, CarrierRecord.wakeBody.eq_def]
  cases h : (s.carrier c).state <;> dsimp only
  case draining => exact h ▸ transition_handed s c .on k none
  case light => exact h ▸ transition_handed s c .on k none
  case deep =>
    rw [State.queueCarrier, (enqueue_changes _ c q).report]
    exact h ▸ transition_handed s c .queued k (some q)
  case queued =>
    rw [State.raiseClass]
    cases (s.carrier c).queuedClass with
    | none => rfl
    | some old =>
      dsimp only
      split
      · rw [(raiseEntry_changes _ c q).report]; rfl
      · rfl
  all_goals rfl

/-- The records of a wake of several carriers, in ascending number, where the picking reads only values and the Policy Loader
(R11). -/
theorem wakeFold_report (s : State) (which : State → Carrier → Bool) (k : Cause) (q : WakeClass)
    (hw : ∀ (t : State) (e : Carrier), (∀ f, (t.carrier f).values = (s.carrier f).values) → t.loader = s.loader →
      which t e = which s e) (l : List Carrier) (hl : l.Nodup) (t : State)
    (hv : ∀ f, (t.carrier f).values = (s.carrier f).values) (ho : t.loader = s.loader) (ht : t.timer = s.timer)
    (hc : ∀ f ∈ l, t.carrier f = s.carrier f) :
    (l.foldl (fun s c => if which s c then s.wake c k q else s) t).report =
      t.report.handAll s ((l.filter (which s)).filterMap (fun c => (s.carrier c).wakeBody c k q)) := by
  induction l generalizing t with
  | nil => rfl
  | cons a l ih =>
    rw [List.nodup_cons] at hl
    rw [List.foldl_cons, hw t a hv ho]
    have hca := hc a (List.mem_cons_self ..)
    by_cases h : which s a = true
    · rw [if_pos h, List.filter_cons_of_pos h, List.filterMap_cons, ih hl.2]
      · rw [wake_report, handAll_timer _ _ ht, hca]
        cases (s.carrier a).wakeBody a k q <;> rfl
      · intro f; rw [wake_carrier]; split
        · rename_i e; subst e; rw [woken_values]; exact hv a
        · exact hv f
      · exact (wake_changes t a k q).loader.trans ho
      · exact (wake_changes t a k q).timer.trans ht
      · intro f hf
        rw [wake_carrier, if_neg (fun e : a = f => hl.1 (e.symm ▸ hf))]
        exact hc f (List.mem_cons_of_mem _ hf)
    · rw [if_neg h, List.filter_cons_of_neg h]
      exact ih hl.2 t hv ho ht (fun f hf => hc f (List.mem_cons_of_mem _ hf))

/-- A wake of several carriers hands their records in ascending number (R11). -/
theorem wakeAll_report (s : State) (which : State → Carrier → Bool) (k : Cause) (q : WakeClass)
    (hw : ∀ (t : State) (e : Carrier), (∀ f, (t.carrier f).values = (s.carrier f).values) → t.loader = s.loader →
      which t e = which s e) :
    (s.wakeAll which k q).report = s.report.handAll s (wakeBodies s (which s) k q) :=
  wakeFold_report s which k q hw carriers carriers_nodup s (fun _ => rfl) rfl rfl (fun _ _ => rfl)

end Sys2Proof.Machine
end

