-- ==== Sys2Proof/Laws/Memory.lean ====
section
/-! SUPPORT. The mirror as addressed bytes: every operation on it keeps the canonical form, and what a byte reads after it. -/

namespace Sys2Proof.Machine

theorem wfFrom_cons {low k : Nat} {v : Byte} {rest : Memory} :
    Memory.wfFrom low ((k, v) :: rest) = true ↔ low ≤ k ∧ v ≠ 0 ∧ Memory.wfFrom (k + 1) rest = true := by
  rw [Memory.wfFrom, Bool.and_eq_true, Bool.and_eq_true, decide_eq_true_eq, bne_iff_ne, and_assoc]

theorem wfFrom_mono {low low' : Nat} (h : low' ≤ low) {m : Memory} (hm : Memory.wfFrom low m = true) :
    Memory.wfFrom low' m = true := by
  cases m with
  | nil => rfl
  | cons x rest => exact wfFrom_cons.2 ⟨le_trans h (wfFrom_cons.1 hm).1, (wfFrom_cons.1 hm).2⟩

theorem wfFrom_write {m : Memory} {low a : Nat} {b : Byte} (ha : low ≤ a) (hm : Memory.wfFrom low m = true) :
    Memory.wfFrom low (m.write a b) = true := by
  induction m generalizing low with
  | nil =>
    rw [Memory.write]
    split
    · rfl
    · rename_i hb
      exact wfFrom_cons.2 ⟨ha, hb, rfl⟩
  | cons x rest ih =>
    obtain ⟨k, v⟩ := x
    obtain ⟨h1, h2, h3⟩ := wfFrom_cons.1 hm
    rw [Memory.write]
    split
    · split
      · exact hm
      · rename_i hb
        exact wfFrom_cons.2 ⟨ha, hb, wfFrom_cons.2 ⟨by omega, h2, h3⟩⟩
    · split
      · split
        · exact wfFrom_mono (by omega) h3
        · rename_i hak hb
          exact wfFrom_cons.2 ⟨ha, hb, hak ▸ h3⟩
      · exact wfFrom_cons.2 ⟨h1, h2, ih (by omega) h3⟩

/-- A write keeps the canonical form. -/
theorem wf_write {m : Memory} (h : m.wf = true) (a : Nat) (b : Byte) : (m.write a b).wf = true :=
  wfFrom_write (Nat.zero_le a) h

theorem wf_mergeByte {m : Memory} (h : m.wf = true) (a : Nat) (b : Beat) (j : Nat) : (mergeByte m a b j).wf = true := by
  rw [mergeByte]
  split
  · exact wf_write h _ _
  · exact h

theorem wf_foldl_mergeByte (a : Nat) (b : Beat) (js : List Nat) {m : Memory} (h : m.wf = true) :
    (js.foldl (fun m j => mergeByte m a b j) m).wf = true := by
  induction js generalizing m with
  | nil => exact h
  | cons j js ih => exact ih (wf_mergeByte h a b j)

theorem wf_mergeBeat {m : Memory} (h : m.wf = true) (a : Nat) (b : Beat) : (mergeBeat m a b).wf = true :=
  wf_foldl_mergeByte a b _ h

/-- A merge keeps the canonical form. -/
theorem wf_mergeBeats {m : Memory} (h : m.wf = true) (a : Nat) (l : List Beat) : (mergeBeats m a l).wf = true := by
  induction l generalizing m a with
  | nil => exact h
  | cons b l ih => exact ih (wf_mergeBeat h a b) _

/-- A byte below every listed address reads as 0. -/
theorem read_below {m : Memory} {low x : Nat} (h : Memory.wfFrom low m = true) (hx : x < low) : m.read x = 0 := by
  induction m generalizing low with
  | nil => rfl
  | cons y rest ih =>
    obtain ⟨k, v⟩ := y
    obtain ⟨h1, -, h3⟩ := wfFrom_cons.1 h
    rw [Memory.read, if_neg (by omega)]
    exact ih h3 (by omega)

theorem read_write_from {m : Memory} {low : Nat} (h : Memory.wfFrom low m = true) (a x : Nat) (b : Byte) :
    (m.write a b).read x = if x = a then b else m.read x := by
  induction m generalizing low with
  | nil =>
    rw [Memory.write]
    split
    · simp_all [Memory.read]
    · simp only [Memory.read]
      by_cases hx : a = x
      · simp [hx]
      · rw [if_neg hx, if_neg (Ne.symm hx)]
  | cons y rest ih =>
    obtain ⟨k, v⟩ := y
    replace h := (wfFrom_cons.1 h).2
    have below : ∀ z, z < k → Memory.read ((k, v) :: rest) z = 0 := fun z hz => by
      rw [Memory.read, if_neg (by omega)]
      exact read_below h.2 (by omega)
    rw [Memory.write]
    split
    · rename_i hak
      split
      · rename_i hb
        by_cases hx : x = a
        · subst hx; rw [if_pos rfl, below x hak, hb]
        · rw [if_neg hx]
      · rw [Memory.read]
        by_cases hx : x = a
        · rw [if_pos hx.symm, if_pos hx]
        · rw [if_neg (Ne.symm hx), if_neg hx]
    · split
      · rename_i hak
        subst hak
        split
        · rename_i hb
          by_cases hx : x = a
          · subst hx; rw [if_pos rfl, hb]; exact read_below h.2 (Nat.lt_succ_self _)
          · rw [if_neg hx, Memory.read, if_neg (Ne.symm hx)]
        · rw [Memory.read]
          by_cases hx : x = a
          · rw [if_pos hx.symm, if_pos hx]
          · rw [if_neg (Ne.symm hx), if_neg hx, Memory.read, if_neg (Ne.symm hx)]
      · rw [Memory.read, Memory.read, ih h.2]
        by_cases hx : k = x
        · rw [if_pos hx, if_pos hx, if_neg (by omega)]
        · rw [if_neg hx, if_neg hx]

/-- A byte written reads as written, and every other byte as before. -/
theorem read_write {m : Memory} (h : m.wf = true) (a x : Nat) (b : Byte) :
    (m.write a b).read x = if x = a then b else m.read x := read_write_from h a x b

/-- The reset mirror has the canonical form. -/
theorem wf_reset : State.reset.loader.mirror.wf = true := rfl

end Sys2Proof.Machine
end

