-- ==== Sys2Proof/Laws/Ticks.lean ====
section
/-! SUPPORT. What a tick does at each carrier and at each counter. -/

namespace Sys2Proof.Machine

variable (s : State)

/-! ### One carrier -/

theorem carrierTick_carrier (b : Bool) (fresh : List Carrier) (a c : Carrier) :
    (carrierTick b fresh s a).carrier c =
      if a = c then (s.carrier a).tick
        (if b = true ∧ (s.carrier a).values.present = true then some (retiredSlot (s.held a) s.timer.slot) else none)
      else s.carrier c := by
  simp only [carrierTick]
  by_cases h : (b && (s.carrier a).values.present) = true
  · rw [if_pos h, Bool.and_eq_true] at *
    simp only [h, and_self, if_true]
    rw [carrier_withDue, carrier_setCarrier]
    by_cases e : a = c
    · rw [if_pos e, if_pos e]
    · rw [if_neg e, if_neg e]; split <;> simp
  · rw [if_neg h]
    rw [Bool.and_eq_true] at h
    rw [carrier_withDue, carrier_setCarrier, if_neg h]

theorem carrierTick_held (b : Bool) (fresh : List Carrier) (a c : Carrier) :
    (carrierTick b fresh s a).held c =
      if a = c ∧ b = true ∧ (s.carrier a).values.present = true then listAfterRetirement (s.held a) s.timer.slot
      else s.held c := by
  simp only [carrierTick]
  by_cases h : (b && (s.carrier a).values.present) = true
  · rw [if_pos h]; rw [Bool.and_eq_true] at h
    rw [held_withDue, held_setCarrier]
    split <;> simp [held_setHeld, h]
  · rw [if_neg h]; rw [Bool.and_eq_true] at h
    rw [held_withDue, held_setCarrier]; simp [h]

theorem carrierTick_figures (b : Bool) (fresh : List Carrier) (a c : Carrier) :
    (carrierTick b fresh s a).figures c =
      if a = c ∧ b = true ∧ (s.carrier a).values.present = true ∧ a ∉ fresh
      then (s.figures a).takeSlot (s.carrier a).state (retiredSlot (s.held a) s.timer.slot).rb
      else s.figures c := by
  simp only [carrierTick]
  by_cases h : (b && (s.carrier a).values.present) = true
  · rw [if_pos h]; rw [Bool.and_eq_true] at h
    rw [figures_withDue, figures_setCarrier]
    by_cases hf : a ∈ fresh <;> simp [figures_setFigures, h, hf]
  · rw [if_neg h]; rw [Bool.and_eq_true] at h
    rw [figures_withDue, figures_setCarrier, if_neg]; tauto

theorem tick_values (r : CarrierRecord) (u : Option SlotUse) : (r.tick u).values = r.values := by
  rw [CarrierRecord.tick.eq_def]; split <;> rfl

theorem tick_state (r : CarrierRecord) (u : Option SlotUse) : (r.tick u).state = r.state := by
  rw [CarrierRecord.tick.eq_def]; split <;> simp_all

/-! ### All carriers -/

theorem slotsFold (b : Bool) (fresh : List Carrier) (c : Carrier) (l : List Carrier) (hl : l.Nodup) (t : State) :
    (l.foldl (carrierTick b fresh) t).timer = t.timer
      ∧ (l.foldl (carrierTick b fresh) t).carrier c =
        (if c ∈ l then (t.carrier c).tick
          (if b = true ∧ (t.carrier c).values.present = true then some (retiredSlot (t.held c) t.timer.slot) else none)
        else t.carrier c)
      ∧ (l.foldl (carrierTick b fresh) t).held c =
        (if c ∈ l ∧ b = true ∧ (t.carrier c).values.present = true then listAfterRetirement (t.held c) t.timer.slot
        else t.held c)
      ∧ (l.foldl (carrierTick b fresh) t).figures c =
        (if c ∈ l ∧ b = true ∧ (t.carrier c).values.present = true ∧ c ∉ fresh
        then (t.figures c).takeSlot (t.carrier c).state (retiredSlot (t.held c) t.timer.slot).rb else t.figures c) := by
  induction l generalizing t with
  | nil => simp
  | cons a l ih =>
    rw [List.nodup_cons] at hl
    rw [List.foldl_cons]
    obtain ⟨h1, h2, h3, h4⟩ := ih hl.2 (carrierTick b fresh t a)
    have ht : (carrierTick b fresh t a).timer = t.timer := (carrierTick_changes t b fresh a).timer
    rw [h1, h2, h3, h4, ht, carrierTick_carrier, carrierTick_held, carrierTick_figures]
    by_cases e : a = c
    · subst e; simp [hl.1]
    · simp [e, Ne.symm e]

theorem slotsTick_carrier (b : Bool) (fresh : List Carrier) (c : Carrier) :
    (s.slotsTick b fresh).carrier c = (s.carrier c).tick
      (if b = true ∧ (s.carrier c).values.present = true then some (retiredSlot (s.held c) s.timer.slot) else none) := by
  rw [State.slotsTick, (slotsFold b fresh c carriers carriers_nodup s).2.1, if_pos (mem_carriers c)]

theorem slotsTick_held (b : Bool) (fresh : List Carrier) (c : Carrier) :
    (s.slotsTick b fresh).held c =
      if b = true ∧ (s.carrier c).values.present = true then listAfterRetirement (s.held c) s.timer.slot else s.held c := by
  rw [State.slotsTick, (slotsFold b fresh c carriers carriers_nodup s).2.2.1]
  simp [mem_carriers]

theorem slotsTick_figures (b : Bool) (fresh : List Carrier) (c : Carrier) :
    (s.slotsTick b fresh).figures c =
      if b = true ∧ (s.carrier c).values.present = true ∧ c ∉ fresh
      then (s.figures c).takeSlot (s.carrier c).state (retiredSlot (s.held c) s.timer.slot).rb else s.figures c := by
  rw [State.slotsTick, (slotsFold b fresh c carriers carriers_nodup s).2.2.2]
  simp [mem_carriers]

theorem slotsTick_timer (b : Bool) (fresh : List Carrier) : (s.slotsTick b fresh).timer = s.timer :=
  (slotsFold b fresh 0 carriers carriers_nodup s).1

/-! ### The other takers -/

theorem clockTick_timer : s.clockTick.timer =
    { s.timer with subSecond := if s.timer.clockSet = true then s.timer.subSecond + 1 else s.timer.subSecond } := by
  simp only [State.clockTick]
  by_cases h : s.timer.clockSet = true
  · rw [if_pos h, if_pos h]; split <;> rfl
  · rw [if_neg h, if_neg h]

theorem arbiterTick_arbiter : s.arbiterTick.arbiter = { s.arbiter with spacing := s.arbiter.spacing - 1 } := by
  simp only [State.arbiterTick]; split <;> rfl

theorem heartbeatTick_loader :
    s.heartbeatTick.loader = { s.loader with heartbeatTimer := s.loader.heartbeatTimer.map (fun n => n + 1) } := by
  rw [State.heartbeatTick.eq_def]
  split
  · rename_i h; rw [h]; simp only [Option.map_none]; rw [← h]
  · rename_i n h; rw [h]; dsimp only; split <;> rfl

theorem windowTick_within (b : Bool) (ha : s.loader.applied.isSome = true) (hc : s.closesWindow = false) :
    (s.windowTick b).timer = { s.timer with windowTicks := s.timer.windowTicks + 1, clean := s.timer.clean && b } := by
  rw [State.windowTick]
  rw [if_neg (by rw [Option.isNone_eq_false_iff.mpr ha]; simp), if_neg (by simp [hc])]

theorem windowTick_closing (b : Bool) (ha : s.loader.applied.isSome = true) (hc : s.closesWindow = true) :
    (s.windowTick b).timer =
      { s.timer with windowNumber := s.timer.windowNumber + 1, windowTicks := 0, clean := true } := by
  rw [State.windowTick]
  rw [if_neg (by rw [Option.isNone_eq_false_iff.mpr ha]; simp), if_pos hc]

/-! ### The events a tick brings about -/

theorem carrierTick_due (b : Bool) (fresh : List Carrier) (a : Carrier) :
    (carrierTick b fresh s a).due = s.due ++ carrierDue s.globals a (s.carrier a)
      ((s.carrier a).tick
        (if b = true ∧ (s.carrier a).values.present = true then some (retiredSlot (s.held a) s.timer.slot) else none))
      (if b = true ∧ (s.carrier a).values.present = true then some (retiredSlot (s.held a) s.timer.slot) else none) := by
  simp only [carrierTick]
  by_cases h : (b && (s.carrier a).values.present) = true
  · rw [if_pos h]; rw [Bool.and_eq_true] at h
    rw [if_pos h]
    by_cases hf : fresh.contains a = true <;> simp only [hf, if_true, if_false, Bool.false_eq_true] <;> rfl
  · rw [if_neg h]; rw [Bool.and_eq_true] at h
    rw [if_neg h]; rfl

theorem slotsFold_due (b : Bool) (fresh : List Carrier) (l : List Carrier) (hl : l.Nodup) (t : State) :
    (l.foldl (carrierTick b fresh) t).due = t.due ++ l.flatMap (fun c => carrierDue t.globals c (t.carrier c)
      ((t.carrier c).tick
        (if b = true ∧ (t.carrier c).values.present = true then some (retiredSlot (t.held c) t.timer.slot) else none))
      (if b = true ∧ (t.carrier c).values.present = true then some (retiredSlot (t.held c) t.timer.slot) else none)) := by
  induction l generalizing t with
  | nil => simp
  | cons a l ih =>
    rw [List.nodup_cons] at hl
    have k := carrierTick_changes t b fresh a
    have hg : (carrierTick b fresh t a).globals = t.globals := by rw [State.globals, State.globals, k.loader]
    rw [List.foldl_cons, ih hl.2, carrierTick_due, List.flatMap_cons, List.append_assoc, hg, k.timer]
    congr 2
    refine List.flatMap_congr fun c hm => ?_
    have e : a ≠ c := fun e => hl.1 (e ▸ hm)
    have hc : (carrierTick b fresh t a).carrier c = t.carrier c := by rw [carrierTick_carrier, if_neg e]
    have hh : (carrierTick b fresh t a).held c = t.held c := by rw [carrierTick_held, if_neg (fun h => e h.1)]
    rw [hc, hh]

/-- The events a tick brings about at the carriers, in ascending carrier number. -/
theorem slotsTick_due (b : Bool) (fresh : List Carrier) :
    (s.slotsTick b fresh).due = s.due ++ carriers.flatMap (fun c => carrierDue s.globals c (s.carrier c)
      ((s.carrier c).tick
        (if b = true ∧ (s.carrier c).values.present = true then some (retiredSlot (s.held c) s.timer.slot) else none))
      (if b = true ∧ (s.carrier c).values.present = true then some (retiredSlot (s.held c) s.timer.slot) else none)) :=
  slotsFold_due b fresh carriers carriers_nodup s

theorem arbiterTick_due : s.arbiterTick.due = s.due ++ if s.arbiter.spacing = 1 then [.spacingExpiry] else [] := by
  simp only [State.arbiterTick]; split <;> simp [State.addDue]

theorem heartbeatTick_due : s.heartbeatTick.due =
    s.due ++ if ∃ n, s.loader.heartbeatTimer = some n ∧ s.globals.heartbeatCode * 4096 ≤ n + 1 then [.heartbeatLapse] else [] := by
  rw [State.heartbeatTick.eq_def]
  split
  · rename_i h; simp [h]
  · rename_i n h; dsimp only; split <;> simp_all [State.addDue]

theorem clockTick_due : s.clockTick.due =
    s.due ++ if s.timer.clockSet = true ∧ s.slotsPerSecond ≤ s.timer.subSecond + 1 then [.clockSecond] else [] := by
  simp only [State.clockTick]
  by_cases h : s.timer.clockSet = true
  · rw [if_pos h]; split <;> simp_all [State.addDue]
  · rw [if_neg h]; simp [h]

theorem windowTick_due (b : Bool) : (s.windowTick b).due = s.due := (windowTick_changes s b).due

/-! ### A whole tick -/

/-- The takings of a tick one after the other, where no application and no lapse comes between them. -/
def State.plainTakings (s : State) (locked : Bool) : State :=
  ((((s.clockTick).windowTick locked).heartbeatTick).slotsTick locked []).arbiterTick

variable {s} in
theorem firstTakings_plain (b lf : Bool) (hd : s.due.contains .heartbeatLapse = false)
    (hl : lf = false ∨ ∀ n, s.loader.heartbeatTimer = some n → n + 1 < s.globals.heartbeatCode * 4096) :
    s.firstTakings b false false lf = s.plainTakings b := by
  rcases hl with rfl | hl
  · rfl
  have c1 : OnlyChanges s ((s.clockTick).windowTick b) [.timer, .due] :=
    (clockTick_changes s).seq (windowTick_changes s.clockTick b)
  have hg : ((s.clockTick).windowTick b).globals = s.globals := by rw [State.globals, State.globals, c1.loader]
  have e : (((s.clockTick).windowTick b).heartbeatTick).takeEarlyLapse = ((s.clockTick).windowTick b).heartbeatTick := by
    rw [State.takeEarlyLapse, if_neg]
    have hn : ¬∃ n, s.loader.heartbeatTimer = some n ∧ s.globals.heartbeatCode * 4096 ≤ n + 1 :=
      fun ⟨n, h, k⟩ => Nat.lt_irrefl _ (Nat.lt_of_lt_of_le (hl n h) k)
    rw [heartbeatTick_due, windowTick_due, clockTick_due, c1.loader, hg, if_neg hn]
    split <;> simp_all
  cases lf
  · rfl
  · rw [State.firstTakings]; simp only [if_true, e, Bool.false_eq_true, if_false]; rfl

variable {s} in
/-- A plain tick: the takings one after the other, then the boundary, then the look for a staged generation. -/
theorem handTick_plain (b : Bool) (o : TickOrder) (hd : s.due.contains .heartbeatLapse = false) (hp : PlainTick s o) :
    s.handTick b o = { s.plainTakings b with
      due := (s.plainTakings b).due ++ s.boundaryDue b ++ (if s.looks then [.generation] else []) } := by
  have ha : s.appliesEarly o = false := by
    rw [State.appliesEarly, State.looks]
    rcases hp.1 with h | h
    · rw [h.2, Option.isNone_eq_false_iff.mpr h.1]; rfl
    · rw [h.1, h.2]; simp
  rw [State.handTick, ha, if_neg Bool.false_ne_true, firstTakings_plain b o.lapseFirst hd hp.2]

/-- The takings of a plain tick: what each block holds after them. -/
theorem plainTakings_blocks (b : Bool) :
    (s.plainTakings b).arbiter = { s.arbiter with spacing := s.arbiter.spacing - 1 }
      ∧ (s.plainTakings b).loader = { s.loader with heartbeatTimer := s.loader.heartbeatTimer.map (fun n => n + 1) }
      ∧ (s.plainTakings b).timer = ((s.clockTick).windowTick b).timer
      ∧ (∀ c, (s.plainTakings b).carrier c = (s.carrier c).tick
          (if b = true ∧ (s.carrier c).values.present = true then some (retiredSlot (s.held c) s.timer.slot) else none))
      ∧ (∀ c, (s.plainTakings b).held c =
          if b = true ∧ (s.carrier c).values.present = true then listAfterRetirement (s.held c) s.timer.slot else s.held c)
      ∧ (∀ c, (s.plainTakings b).figures c =
          if b = true ∧ (s.carrier c).values.present = true
          then (s.figures c).takeSlot (s.carrier c).state (retiredSlot (s.held c) s.timer.slot).rb else s.figures c)
      ∧ OnlyChanges s (s.plainTakings b) [.controller, .timer, .monitor, .evaluator, .arbiter, .loader, .due] := by
  rw [State.plainTakings]
  have c1 := clockTick_changes s
  have c2 := windowTick_changes s.clockTick b
  have c3 := heartbeatTick_changes ((s.clockTick).windowTick b)
  have c4 := slotsTick_changes (((s.clockTick).windowTick b).heartbeatTick) b []
  have c5 := arbiterTick_changes ((((s.clockTick).windowTick b).heartbeatTick).slotsTick b [])
  have c12 : OnlyChanges s ((s.clockTick).windowTick b) [.timer, .due] := c1.seq c2
  have c123 : OnlyChanges s (((s.clockTick).windowTick b).heartbeatTick) [.timer, .due, .loader] := c12.seq c3
  have sl : (((s.clockTick).windowTick b).heartbeatTick).timer.slot = s.timer.slot := by
    rw [c3.timer]
    have a : (s.clockTick.windowTick b).timer.slot = s.clockTick.timer.slot := by
      rw [State.windowTick]; split; · rfl
      split <;> rfl
    rw [a, clockTick_timer]
  refine ⟨?_, ?_, ?_, fun c => ?_, fun c => ?_, fun c => ?_, ?_⟩
  · rw [arbiterTick_arbiter, c4.arbiter, c123.arbiter]
  · rw [c5.loader, c4.loader, heartbeatTick_loader, c12.loader]
  · rw [c5.timer, slotsTick_timer, c3.timer]
  · rw [c5.carrier, slotsTick_carrier, sl, c123.carrier, c123.held]
  · rw [c5.held, slotsTick_held, sl, c123.carrier, c123.held]
  · rw [c5.figures, slotsTick_figures, sl, c123.carrier, c123.held, c123.figures]; simp
  · exact c123.seq (c4.seq c5 (n := [.controller, .monitor, .evaluator, .arbiter, .due]))

/-- The events the takings of a plain tick bring about, in their order. -/
theorem plainTakings_due (b : Bool) : (s.plainTakings b).due =
    s.due ++ (if s.timer.clockSet = true ∧ s.slotsPerSecond ≤ s.timer.subSecond + 1 then [.clockSecond] else [])
      ++ (if ∃ n, s.loader.heartbeatTimer = some n ∧ s.globals.heartbeatCode * 4096 ≤ n + 1 then [.heartbeatLapse] else [])
      ++ carriers.flatMap (fun c => carrierDue s.globals c (s.carrier c) ((s.plainTakings b).carrier c)
          (if b = true ∧ (s.carrier c).values.present = true then some (retiredSlot (s.held c) s.timer.slot) else none))
      ++ (if s.arbiter.spacing = 1 then [.spacingExpiry] else []) := by
  have c12 : OnlyChanges s ((s.clockTick).windowTick b) [.timer, .due] :=
    (clockTick_changes s).seq (windowTick_changes s.clockTick b)
  have c3 := heartbeatTick_changes ((s.clockTick).windowTick b)
  have c123 : OnlyChanges s (((s.clockTick).windowTick b).heartbeatTick) [.timer, .due, .loader] := c12.seq c3
  have c4 := slotsTick_changes (((s.clockTick).windowTick b).heartbeatTick) b []
  have hb := plainTakings_blocks s b
  have sl : (((s.clockTick).windowTick b).heartbeatTick).timer.slot = s.timer.slot := by
    rw [c3.timer]
    have a : (s.clockTick.windowTick b).timer.slot = s.clockTick.timer.slot := by
      rw [State.windowTick]; split; · rfl
      split <;> rfl
    rw [a, clockTick_timer]
  have g1 : ((s.clockTick).windowTick b).globals = s.globals := by rw [State.globals, State.globals, c12.loader]
  have g2 : (((s.clockTick).windowTick b).heartbeatTick).globals = s.globals := by
    have hx : ∀ t : State, t.heartbeatTick.globals = t.globals := fun t => by
      rw [State.globals, State.globals, heartbeatTick_loader]
    rw [hx, g1]
  rw [State.plainTakings, arbiterTick_due, slotsTick_due, heartbeatTick_due, windowTick_due, clockTick_due, c4.arbiter,
    c123.arbiter, c12.loader, g1, g2, sl]
  congr 2
  refine List.flatMap_congr fun c _ => ?_
  rw [c123.carrier, c123.held]
  have := hb.2.2.2.1 c
  rw [State.plainTakings] at this
  rw [this]

end Sys2Proof.Machine
end

