-- ==== Sys2Proof/Tests/Slice0.lean ====
section
/-! SUPPORT. Small tests: the well-formedness checks refuse ill-formed commands, the spec's worked examples come out, and every
statement has a concrete state and operands that meet its hypotheses. -/

namespace Sys2Proof.Tests

open Sys2Proof.Machine

/-! ### Well-formedness refuses -/

def readOf (address count : Nat) : Request :=
  { master := 2, kind := .read, address := BitVec.ofNat 40 address, count := count, data := [] }

theorem test_wf_count_zero : (Instr.upstreamRequest (some (readOf 0 0))).wellFormed = false := by decide
theorem test_wf_count_nine : (Instr.upstreamRequest (some (readOf 0 9))).wellFormed = false := by decide
theorem test_wf_address : (Instr.upstreamRequest (some (readOf 4 1))).wellFormed = false := by decide
theorem test_wf_read_with_data :
    (Instr.upstreamRequest (some { readOf 0 1 with data := [{ data := 0, enables := 0 }] })).wellFormed = false := by decide
theorem test_wf_write_without_data :
    (Instr.upstreamRequest (some { readOf 0 1 with kind := .write })).wellFormed = false := by decide
theorem test_wf_policy_write : (Instr.policyWrite 0 []).wellFormed = false := by decide
theorem test_wf_response_too_long : (Instr.downstreamResponse .ok (List.replicate 9 0)).wellFormed = false := by decide
theorem test_wf_error_with_data : (Instr.downstreamResponse .error [1]).wellFormed = false := by decide
theorem test_wf_accepts : (Instr.upstreamRequest (some (readOf 0x38 1))).wellFormed = true := by decide

/-! ### A small site: carrier 0 the anchor, carriers 1 and 2 capacity carriers of sector 0 -/

/-- The values of a present carrier of the small site. -/
def valuesOf (c : Carrier) (role : Role) (limits : Option AnchorLimits) (sensing : Bool) : CarrierValues :=
  { CarrierValues.cleared with
    present := true, role := role, rbMax := 100, windowBase := 0x800000 + 4096 * c.val, sensing := sensing
    sleepEnable := true, deepEnable := true, weight := 2, warmupTimeout := 100, tSleep := 80, tWake := 90, tDeep := 60
    limits := limits, minSleep := 5 }

def siteValues (c : Carrier) : CarrierValues :=
  if c = 0 then valuesOf 0 .anchor (some { cAdm := 500, cOvl := 800 }) true
  else if c = 1 then valuesOf 1 .capacity none true
  else if c = 2 then valuesOf 2 .capacity none false
  else .cleared

def siteGlobals : Globals :=
  { Globals.unset with
    scheduler := 1, fronthaul := 2, w := 500, budgetLimit := 4, spacing := 3, heartbeatCode := 1, attention := true
    ringCapacity := 16, drainConfirm := 3, drainBackoff := 2, drainLimit := 100, nightStart := 79200, nightEnd := 21600
    beaconDeadline := 20, reportBase := 0x900000 }

def sitePolicy : Policy := { globals := siteGlobals, entries := tabulate siteValues }

/-- The small site with carriers 0, 1 and 2 in the states given, LOCKED at the slot given. -/
def site (a b c : CarrierState) (slot : Slot) : State :=
  { State.reset with
    controller := { records := tabulate fun d =>
      { CarrierRecord.vacant with
        values := siteValues d
        state := if d = 0 then a else if d = 1 then b else if d = 2 then c else .absent
        queuedClass := if (d = 1 ∧ b = .queued) ∨ (d = 2 ∧ c = .queued) then some .load else none } }
    timer := { SlotTimer.reset with state := .locked, slot := slot, windowNumber := 1 }
    transit := { TransitPath.reset 0 0 with
      windows := windowTable 0 sitePolicy, scheduler := some 1, fronthaul := some 2 }
    evaluator := { LoadEvaluator.reset with params := some { w := 500, k := 1, entries := tabulate siteValues } }
    loader := { PolicyLoader.reset with applied := some sitePolicy, lastApplied := 1, heartbeatTimer := some 0 }
    report := { ReportUnit.reset with ring := some (ringOf sitePolicy) } }

def awake : State := site .on .on .on 10

def withDue (s : State) (l : List Due) : State := { s with due := l }

/-- The next state of a command; the state itself where there is none. -/
def after (i : Instr) (s : State) : State :=
  match exec i s with
  | .next t => t
  | .fault _ => s
  | .refused _ => s

/-- A state of the carriers in which the ready line of carrier 1 is high. -/
def lit (s : State) : State := s.setReady 1 true

/-- The anchor with its ready line high, and two sleepers. -/
def night : State := (site .on .light .deep 10).setReady 0 true

def readyHeld (c : Carrier) (l : List Held) (s : State) : State := s.setHeld c l

/-- A first beat of a descriptor (section 10.1). -/
def firstBeat (tag carrier rb beacon urgent : Nat) : BeatData :=
  BitVec.ofNat 64 (5 + tag * 16 + carrier * 65536 + rb * 2 ^ 21 + beacon * 2 ^ 30 + urgent * 2 ^ 31)

def cellWrite (master : Master) (address : Nat) (d : BeatData) : Request :=
  { master := master, kind := .write, address := BitVec.ofNat 40 address, count := 1, data := [{ data := d, enables := 0xFF }] }

def upstreamEntryOf (abandoned : Bool) (mask : Option (List BlankMark)) : InFlight :=
  { origin := .upstream, kind := .read, disposition := .forwarded, abandoned := abandoned, mask := mask, master := 2, count := 1 }

def inFlight (s : State) (l : List InFlight) : State := { s with transit := { s.transit with inFlight := l } }

/-! ### The spec's worked examples -/

/-- Chapter 4: the lead distances across the wrap. -/
theorem test_lead_distances :
    leadDistance 0 4094 = 2 ∧ leadDistance 4094 4093 = 1 ∧ leadDistance 4093 4093 = 0 ∧ leadDistance 4092 4093 = 4095 := by decide

/-- A READ of 3 beats at block offset 0x30 crosses; one of 2 beats does not (R45). -/
theorem test_block_crossing : crossesBlock (readOf 0x30 3) = true ∧ crossesBlock (readOf 0x30 2) = false := by decide

/-- Section 5.9: utilisation 49, the filter from 1200 to 1096, at rest at 787, and up from 3200 to 4800. -/
theorem test_filter_worked : utilisation 52000 10000 106 = 49 ∧ filterLoad 1200 49 2 = 1096 ∧ filterLoad 960 49 2 = 916
    ∧ filterLoad 787 49 2 = 787 ∧ filterLoad 786 49 2 = 786 ∧ filterLoad 3200 600 2 = 4800 := by decide

/-- Section 5.9: the moved loads. -/
theorem test_moved_loads : movedLoad 900 52 273 = 171 ∧ movedLoad 1096 106 273 = 425 ∧ movedLoad 1500 273 273 = 1500
    ∧ movedLoad 800 106 273 = 310 ∧ movedLoad 600 52 273 = 114 := by decide

/-- Section 4.6: the list after event 5, and the list after event 8. -/
theorem test_list_across_wrap :
    [firstBeat 4094 5 40 0 0, firstBeat 4095 5 0 1 0, firstBeat 0 5 130 0 0, firstBeat 1 5 20 0 0].foldl
        (fun l d => holdIn 4093 (heldEntry 106 d) l) []
      = [{ tag := 4094, rb := 40, beacon := false }, { tag := 4095, rb := 0, beacon := true },
         { tag := 0, rb := 106, beacon := false }, { tag := 1, rb := 20, beacon := false }]
    ∧ [firstBeat 0 5 50 0 0, firstBeat 2 5 10 0 0].foldl (fun l d => holdIn 4094 (heldEntry 106 d) l)
        [{ tag := 4095, rb := 0, beacon := true }, { tag := 0, rb := 106, beacon := false }, { tag := 1, rb := 20, beacon := false }]
      = [{ tag := 4095, rb := 0, beacon := true }, { tag := 0, rb := 50, beacon := false },
         { tag := 1, rb := 20, beacon := false }, { tag := 2, rb := 10, beacon := false }] := by decide

/-- R86: T_sleep 80, T_wake 60, T_deep 95 become 80, 81 and 80. -/
theorem test_clamp_thresholds :
    (clampThresholds { CarrierValues.cleared with tSleep := 80, tWake := 60, tDeep := 95 }).tSleep = 80
    ∧ (clampThresholds { CarrierValues.cleared with tSleep := 80, tWake := 60, tDeep := 95 }).tWake = 81
    ∧ (clampThresholds { CarrierValues.cleared with tSleep := 80, tWake := 60, tDeep := 95 }).tDeep = 80 := by decide

/-- R86, steps 2 and 4 at the top: 1000 against 1000 becomes 999 and 1000. -/
theorem test_clamp_at_top :
    (clampThresholds { CarrierValues.cleared with tSleep := 1200, tWake := 1000, tDeep := 1000 }).tSleep = 999
    ∧ (clampThresholds { CarrierValues.cleared with tSleep := 1200, tWake := 1000, tDeep := 1000 }).tWake = 1000
    ∧ (clampThresholds { CarrierValues.cleared with tSleep := 1200, tWake := 1000, tDeep := 1000 }).tDeep = 999
    ∧ clampLimits { cAdm := 1000, cOvl := 5 } = { cAdm := 999, cOvl := 1000 } := by decide

/-- R47: a WRITE of master 7 into the policy region meets two conditions, and one alone where the straps read 7. -/
theorem test_reserved_and_foreign :
    requestFaults (cellWrite 7 0 0) awake.transit = [.reservedMaster, .foreignPolicy]
    ∧ requestFaults (cellWrite 7 0 0) { awake.transit with policyMaster := 7 } = [.reservedMaster]
    ∧ requestFaults (cellWrite 3 0x900000 0) awake.transit = [.reportWrite]
    ∧ requestFaults (readOf 0x900000 1) awake.transit = [] := by decide

/-- R46: a crossing request whose first block is in no window has the index of its second block. -/
theorem test_window_index :
    requestWindow (readOf 0x8FFFF8 2) awake.transit = some 25 ∧ requestWindow (readOf 0x8FFFF8 1) awake.transit = none
    ∧ requestWindow (readOf 0x801FF8 2) awake.transit = some 1 := by decide

/-- R40: the night from 79200 to 21600 wraps over midnight; equal ends make no night. -/
theorem test_night_window :
    inNight 79200 21600 79200 = true ∧ inNight 79200 21600 0 = true ∧ inNight 79200 21600 21600 = false
    ∧ inNight 79200 21600 50000 = false ∧ inNight 5 5 5 = false := by decide

/-- R38: 4000 slots a second, the count at 3999 and the clock at 86399: the tick's second wraps to 0. -/
theorem test_clock_wraps :
    (after .clockSecondAdvance (withDue { awake with timer := { awake.timer with seconds := 86399, subSecond := 4000 } }
      [.clockSecond])).timer.seconds = 0 := by decide

/-- R60: the fields of a first beat. -/
theorem test_descriptor_fields :
    descFormat (firstBeat 4094 7 120 1 0) = 5 ∧ descTag (firstBeat 4094 7 120 1 0) = 4094 ∧ descCarrier (firstBeat 4094 7 120 1 0) = 7
    ∧ descRb (firstBeat 4094 7 120 1 0) = 120 ∧ descBeacon (firstBeat 4094 7 120 1 0) = true
    ∧ descUrgent (firstBeat 4094 7 120 1 0) = false := by decide

/-- Section 10.2: a byte of 0x0A names master 2 and one of 0x0F master 7; bits 40 to 63 of an address are ignored. -/
theorem test_region_fields : (readGlobals [(0x042, 0x0A), (0x043, 0x0F)]).scheduler = 2
    ∧ (readGlobals [(0x042, 0x0A), (0x043, 0x0F)]).fronthaul = 7
    ∧ (readGlobals [(0x044, 0xF4), (0x045, 1), (0x064, 1), (0x065, 9)]).w = 500
    ∧ (readGlobals [(0x044, 0xF4), (0x045, 1), (0x064, 1), (0x065, 9)]).reportBase = 2 ^ 32 := by decide

/-- Section 10.3: every field of an entry at its greatest value, and the two reserved bits 0. -/
theorem test_entry_bits : encodeEntry .faulted (some .routine)
    { Figures.zero with load := 16383, lastU := 1023, latchedLight := 65535, latchedOff := 65535 } = 0xFFFFFFFF3FFFFFF7 := by decide

def exampleFault : BusFault :=
  { kinds := [.reportWrite], master := 3, kind := .write, address := 0x50000100, window := some 25 }

/-- Section 10.3's example: the FAULT record of a write by master 3 to 0x00_5000_0100 in window 25, made with the GAP flag. -/
theorem test_fault_record :
    encodeRecord true { window := 2, seconds := 7, slot := 9, body := .faultReport { fault := exampleFault, more := false } }
      = [0x0000000200FF0104, 0x0000000900000007, 0x0000001901030008, 0x0000000050000100] := by decide

/-- R163: a STATE record of carrier 4 from DRAINING to LIGHT in window 3. -/
theorem test_record_beats :
    encodeRecord false { window := 3, seconds := 7, slot := 9, body := .stateChange 4 .draining .light .drainConfirmed none }
      = [0x0000000300040001, 0x0000000900000007, 0x0000000000030302, 0] := by decide

/-! ### One step of each command -/

theorem test_power_on_reset : (after (.powerOnReset 3 5) awake).transit.policyBase = 3145728 := by decide
theorem test_fabric_reset : (after (.fabricReset .controllerLoaderReport) night).loader.heartbeat = .lapsed := by decide +kernel
theorem test_external_tick :
    (after (.externalTick false usualOrder) awake).timer.slot = 11
    ∧ ((after (.externalTick false usualOrder) awake).carrier 1).minOnCount = 1 := by decide +kernel
theorem test_tick_loss : (after (.tickLoss .beforeOutstanding usualOrder) awake).timer.state = .holdover := by decide +kernel
/-- R100, R112: a DRAIN outstanding at a tick loss is ended by the HOLDOVER cause, or drains over the first local tick alone. -/
theorem test_tick_loss_with_verdict :
    ((after (.tickLoss .beforeOutstanding usualOrder) (withDue awake
      [.verdicts false [{ carrier := 1, kind := .drain, cause := .lowLoad, cls := .routine }]])).carrier 1).state = .on
    ∧ ((after (.tickLoss .afterLocalTick usualOrder) (withDue awake
      [.verdicts false [{ carrier := 1, kind := .drain, cause := .lowLoad, cls := .routine }]])).carrier 1).state = .draining
    ∧ ((after (.tickLoss .afterLocalTick usualOrder) (withDue awake
      [.verdicts false [{ carrier := 1, kind := .drain, cause := .lowLoad, cls := .routine }]])).due.contains (.failSafe .holdover)) = true := by
  decide +kernel
theorem test_local_tick :
    (after (.localTick usualOrder) { awake with timer := { awake.timer with state := .holdover, holdover := some 0 } }).timer.holdover
      = some 1000 := by decide
theorem test_drain_confirmed :
    ((after (.drainConfirmed 1) (withDue (site .on .draining .on 10) [.drainConfirmed 1 true])).carrier 1).keyed = true := by decide
theorem test_drain_deadline :
    ((after (.drainDeadline 1) (withDue (site .on .draining .on 10) [.drainDeadline 1])).carrier 1).backoff = 2 := by decide
theorem test_beacon_starved :
    ((after (.beaconStarved 1) (withDue (site .on .light .on 10) [.beaconStarved 1])).carrier 1).state = .on := by decide
theorem test_window_boundary :
    (after .windowBoundary (withDue awake [.boundary 1 true true])).evaluator.lastEvaluated = 1 := by decide
theorem test_verdict_list :
    ((after (.verdictList none) (withDue awake [.verdicts true [{ carrier := 1, kind := .drain, cause := .lowLoad, cls := .routine }]])).carrier 1).state
      = .draining := by decide +kernel
theorem test_generation_application :
    (after .generationApplication (withDue { awake with loader := { awake.loader with mirror := [(0, 9)] } } [.generation])).loader.lastRefused
      = 9 := by decide
theorem test_upstream_request :
    (after (.upstreamRequest (some (readOf 0x801000 1))) (site .on .deep .on 10)).transit.inFlight.map (fun e => e.mask)
      = [some [.first]] := by decide
theorem test_policy_write :
    (after (.policyWrite 8 [{ data := 0x0102, enables := 1 }]) awake).loader.mirror = [(0x40, 2)] := by decide
theorem test_heartbeat_write :
    (after (.heartbeatWrite 1 15) { awake with loader := { awake.loader with heartbeat := .lapsed, heartbeatTimer := none } }).loader.heartbeatTimer
      = some 0 := by decide
theorem test_consumer_index_write :
    (after (.consumerIndexWrite 1 3) { awake with report := { awake.report with producer := 1 } }).report.consumer = 1 := by decide
theorem test_clock_set_write : (after (.clockSetWrite 80000 15) awake).timer.seconds = 80000 := by decide
theorem test_keep_awake_write : ((after (.keepAwakeWrite 2 7) (site .on .light .on 10)).carrier 1).state = .on := by decide +kernel
theorem test_downstream_response :
    (after (.downstreamResponse .ok [0xFFFFFFFFFFFFFFFF]) (inFlight awake [upstreamEntryOf false (some [.first])])).outside.givenUpstream
      = [{ master := 2, status := .ok, beats := [0xFFFFFFFF001FFFFF] }] := by decide
theorem test_report_grant :
    (after .reportGrant { awake with report := { awake.report with pending := [.producerUpdate] } }).outside.sentDownstream.map (fun r => r.address)
      = [0x900000] := by decide
theorem test_ready_rise : ((after (.readyRise 1) (site .on .warming .on 10)).carrier 1).state = .on := by decide
theorem test_ready_fall_faults : ((after (.readyFall 1) (lit awake)).carrier 1).state = .faulted := by decide
theorem test_warmup_expiry :
    ((after (.warmupExpiry 1) (withDue (site .on .warming .on 10) [.warmupExpiry 1])).carrier 1).state = .faulted
    ∧ ((after (.warmupExpiry 2) (withDue (site .on .on .warming 10) [.warmupExpiry 2])).carrier 2).state = .on := by decide

def queuedSite : State :=
  { site .on .queued .on 10 with arbiter := { WarmupArbiter.reset with queue := [{ carrier := 1, cls := .load, ordinal := 1 }], ordinal := 1 } }

theorem test_spacing_expiry : (after .spacingExpiry (withDue queuedSite [.spacingExpiry])).due = [.grant 1] := by decide
theorem test_ready_notice : (after (.readyNotice 1) (withDue queuedSite [.readyNotice 1])).arbiter.charged = [(1, 2)] := by decide
theorem test_grant : ((after (.grant 1) (withDue (site .on .queued .on 10) [.grant 1])).carrier 1).state = .warming := by decide
/-- R123: of two grants the first made is the first taken. -/
theorem test_grant_order : (after (.grant 2) (withDue (site .on .queued .queued 10) [.grant 1, .grant 2])).due = [.grant 1, .grant 2] := by
  decide
theorem test_demand : ((after (.demand 2) (withDue night [.demand 2 true])).carrier 2).queuedClass = some .urgent := by decide
theorem test_fail_safe_wake :
    ((after (.failSafeWake .holdover) (withDue night [.failSafe .holdover])).carrier 1).state = .on := by decide +kernel
theorem test_heartbeat_lapse : (after .heartbeatLapse (withDue awake [.heartbeatLapse])).due = [.failSafe .heartbeatLapsed] := by decide

/-- Two carriers in DEEP, the enqueue ordinal at 30 and the spacing timer running. -/
def twoDeep : State :=
  { site .on .deep .deep 10 with arbiter := { WarmupArbiter.reset with ordinal := 30, spacing := 2 } }

/-- R117: a fail-safe wake numbers its entries in ascending carrier number, from 31. -/
theorem test_wake_ordinals :
    (after (.failSafeWake .holdover) (withDue twoDeep [.failSafe .holdover])).arbiter.queue
      = [{ carrier := 1, cls := .urgent, ordinal := 31 }, { carrier := 2, cls := .urgent, ordinal := 32 }] := by decide +kernel

/-- R159, R149: the records of a fabric reset with no sleeper, in the order of the takings. -/
theorem test_fabric_reset_records :
    (after (.fabricReset .controllerLoaderReport) awake).report.pending.map (fun w => match w with
      | .ringRecord _ r => some r.body
      | _ => none) = [some (.heartbeat .lapsed), some .fabricReset] := by decide +kernel

/-- A drain one tick from its deadline, and a heartbeat one tick from its lapse. -/
def ending : State :=
  let s := (site .on .draining .on 10).setCarrier 1 { (site .on .draining .on 10).carrier 1 with drainElapsed := 99 }
  { s with loader := { s.loader with heartbeatTimer := some 4095 } }

/-- R113: the lapse taken before the Carrier Controller's tick leaves no drain to end; taken after it, the deadline is met. -/
theorem test_lapse_before_tick :
    (after (.externalTick false { usualOrder with lapseFirst := true }) ending).due = []
    ∧ (after (.externalTick false usualOrder) ending).due = [.heartbeatLapse, .drainDeadline 1] := by decide +kernel

/-! ### The hypotheses of the statements are met -/

theorem quiet_of (s : State) (h : s.due.all (fun d => !d.atOnce) = true) : Quiet s := by
  intro d hd
  simpa using List.all_eq_true.mp h d hd

/-- A command at the front; and an empty queue with an event taken at once behind another, with one behind a tick loss, with a
tick loss alone, and with none. -/
theorem wit_StepRunsFrontCommand :
    ({ awake with pending := [.reportGrant, .windowBoundary] } : State).pending = .reportGrant :: [.windowBoundary]
    ∧ (withDue awake [.readyNotice 1, .clockSecond]).pending = []
    ∧ (withDue awake [.readyNotice 1, .clockSecond]).due = [.readyNotice 1] ++ .clockSecond :: []
    ∧ Due.atOnce .clockSecond = true ∧ Due.atOnce (.readyNotice 1) = false
    ∧ Quiet (withDue awake [.tickLoss, .readyNotice 1])
    ∧ (withDue awake [.tickLoss, .readyNotice 1]).due = [.tickLoss] ++ .readyNotice 1 :: []
    ∧ (withDue awake [.tickLoss]).due = [.tickLoss] ∧ awake.due = [] ∧ awake.pending = [] ∧ awake.arbiterChoice = none
    ∧ awake.slotLength = 1000 ∧ State.reset.loader.applied = none :=
  ⟨rfl, rfl, rfl, rfl, rfl, quiet_of _ rfl, rfl, rfl, rfl, rfl, by decide⟩

/-- What the part comes to with no command: the state itself where there is no next one. -/
def alone (s : State) : State :=
  match step s with
  | .next t => t
  | .fault _ => s
  | .refused _ => s

/-- The state with the loss timer and the holdover generator as given. -/
def timed (s : State) (loss : Nat) (next : Option Nat) : State :=
  { s with timer := { s.timer with lossTimer := loss, holdover := next } }

/-- R30, R32: at 1999 of 2000 microseconds time passes, and at 2000 HOLDOVER is entered; in HOLDOVER the generator counts down,
and at 0 a local tick is made. -/
theorem test_local_time : (alone (timed awake 1999 none)).timer.lossTimer = 2000
    ∧ (alone (timed awake 2000 none)).timer.state = .holdover
    ∧ (alone (timed { awake with timer := { awake.timer with state := .holdover } } 0 (some 7))).timer.holdover = some 6
    ∧ (alone (timed { awake with timer := { awake.timer with state := .holdover } } 0 (some 0))).timer.slot = 11 := by decide +kernel

theorem wit_ReadyRiseResult : ∃ (s : State) (c : Carrier), Quiet s ∧ s.readyLevel c = false ∧ s.senses c = true
    ∧ (s.carrier c).state = .warming := ⟨site .on .warming .on 10, 1, quiet_of _ rfl, by decide⟩
theorem wit_ReadyRiseResult_elsewhere :
    Quiet (lit awake) ∧ (lit awake).readyLevel 1 = true ∧ awake.senses 2 = false ∧ (awake.carrier 1).state ≠ .warming :=
  ⟨quiet_of _ rfl, by decide⟩

theorem wit_ReadyFallResult : ∃ (s : State) (c : Carrier), Quiet s ∧ s.readyLevel c = true ∧ s.senses c = true
    ∧ s.isAnchor c = false ∧ (s.carrier c).state.serving = true := ⟨lit awake, 1, quiet_of _ rfl, by decide⟩
theorem wit_ReadyFallResult_elsewhere :
    Quiet awake ∧ awake.readyLevel 1 = false ∧ awake.senses 2 = false ∧ ((site .on .warming .on 10).carrier 1).state.serving = false :=
  ⟨quiet_of _ rfl, by decide⟩

theorem wit_AnchorLostCascade_order : deepOf twoDeep twoDeep.isCapacity = [1, 2] ∧ deepOf night night.isCapacity = [2]
    ∧ (wakeBodies night night.isCapacity .anchorLost .urgent).length = 2 := by decide
theorem wit_AnchorLostCascade : ∃ (s : State) (c d : Carrier), Quiet s ∧ s.readyLevel c = true ∧ s.senses c = true
    ∧ s.isAnchor c = true ∧ (s.carrier c).state = .on ∧ s.isCapacity d = true
    ∧ (s.carrier d).values.sector = (s.carrier c).values.sector ∧ (s.carrier d).state = .deep :=
  ⟨night, 0, 2, quiet_of _ rfl, by decide⟩

theorem wit_DemandResult :
    Quiet (withDue night [.demand 2 true]) ∧ firstDue (isDemand 2) [.demand 2 true] = some (.demand 2 true, [])
    ∧ (night.carrier 2).state = .deep ∧ (queuedSite.carrier 1).state = .queued ∧ (queuedSite.carrier 1).queuedClass = some .load
    ∧ queuedSite.arbiter.queue = [] ++ { carrier := 1, cls := .load, ordinal := 1 } :: []
    ∧ (site .on .queued .on 10).arbiter.queue = [] ∧ (demandClass false).rank < WakeClass.load.rank
    ∧ WakeClass.urgent.rank ≤ (demandClass true).rank
    ∧ firstDue (isDemand 1) [.readyNotice 1, .demand 1 false] = some (.demand 1 false, [.readyNotice 1])
    ∧ (night.carrier 1).state ≠ .deep ∧ (night.carrier 1).state ≠ .queued := ⟨quiet_of _ rfl, by decide⟩

theorem wit_FailSafeWakesSleepers : Quiet (withDue night [.failSafe .fabricReset])
    ∧ firstDue (fun d => d == .failSafe .fabricReset) [.failSafe .fabricReset] = some (.failSafe .fabricReset, [])
    ∧ night.isCapacity 1 = true ∧ (night.carrier 1).state.sleeping = true := ⟨quiet_of _ rfl, by decide⟩

theorem wit_GrantResult : Quiet (withDue queuedSite [.grant 1, .grant 2])
    ∧ firstDue isGrant [.grant 1, .grant 2] = some (.grant 1, [.grant 2]) ∧ (queuedSite.carrier 1).state = .queued
    ∧ (queuedSite.carrier 1).values.sensing = true ∧ queuedSite.readyLevel 1 = false ∧ (lit queuedSite).readyLevel 1 = true
    ∧ ((site .on .on .queued 10).carrier 2).state = .queued ∧ ((site .on .on .queued 10).carrier 2).values.sensing = false
    ∧ ∀ d : Carrier, Due.grant d ∉ queuedSite.due :=
  ⟨quiet_of _ rfl, by decide⟩

theorem wit_WarmupExpiryResult : Quiet (withDue (site .on .warming .warming 10) [.warmupExpiry 1, .warmupExpiry 2])
    ∧ firstDue (fun d => d == .warmupExpiry 2) [.warmupExpiry 1, .warmupExpiry 2] = some (.warmupExpiry 2, [.warmupExpiry 1])
    ∧ ((site .on .warming .warming 10).carrier 1).values.sensing = true
    ∧ ((site .on .warming .warming 10).carrier 2).values.sensing = false
    ∧ ((site .on .warming .warming 10).carrier 1).state = .warming := ⟨quiet_of _ rfl, by decide⟩

theorem wit_DrainAndLightEnds :
    firstDue (isDrainConfirmed 1) [.drainConfirmed 1 false] = some (.drainConfirmed 1 false, [])
    ∧ ((site .on .draining .light 10).carrier 1).state = .draining
    ∧ firstDue (fun d => d == .drainDeadline 1) [.drainDeadline 1] = some (.drainDeadline 1, [])
    ∧ firstDue (fun d => d == .beaconStarved 2) [.beaconStarved 2] = some (.beaconStarved 2, [])
    ∧ ((site .on .draining .light 10).carrier 2).state = .light := by decide

/-- A carrier in DRAINING with its counters at their limits. -/
def drained : State :=
  (site .on .draining .on 10).setCarrier 1
    { (site .on .draining .on 10).carrier 1 with emptyRun := 255, drainElapsed := 65535 }

theorem wit_DrainCounters : (drained.carrier 1).state = .draining ∧ (drained.carrier 1).emptyRun = 255
    ∧ (drained.carrier 1).drainElapsed = 65535 ∧ (drained.carrier 1).values.present = true
    ∧ ((drained.slotsTick true []).carrier 1).emptyRun = 255 ∧ ((drained.slotsTick true []).carrier 1).drainElapsed = 65535 := by decide +kernel

def holding : State := { awake with timer := { awake.timer with state := .holdover, holdover := some 0 } }

theorem plain_usual (s : State) : PlainTick s usualOrder := ⟨.inr ⟨rfl, rfl⟩, .inl rfl⟩

theorem wit_ExternalTickTable : State.reset.due = [] ∧ State.reset.timer.state = .unsynced ∧ awake.due = []
    ∧ awake.timer.state = .locked ∧ holding.timer.state = .holdover ∧ PlainTick State.reset usualOrder :=
  ⟨by decide, by decide, by decide, by decide, by decide, plain_usual _⟩
/-- The last tick of a window is next. -/
def lastTick : State := { awake with timer := { awake.timer with windowTicks := 499 } }

/-- An unmarked tick, a slip, a marked tick at 4095 and a boundary tick. -/
theorem wit_LockedTickResult : awake.due = [] ∧ awake.timer.state = .locked ∧ PlainTick awake usualOrder
    ∧ PlainTick lastTick usualOrder ∧ lastTick.closesWindow = true ∧ awake.slips false = false ∧ awake.slips true = true
    ∧ (site .on .on .on 4095).slips true = false ∧ (site .on .on .on 4095).slotBegun true = 0 ∧ awake.closesWindow = false
    ∧ (awake.carrier 1).values.present = true ∧ (awake.carrier 5).values.present = false :=
  ⟨by decide, by decide, plain_usual _, plain_usual _, by decide⟩

/-- The end of a drain at a tick: brought about, and the carrier still in DRAINING until it is taken. -/
theorem wit_TickBrings : (after (.externalTick false usualOrder) lastTick).due = [.boundary 1 true true, .generation]
    ∧ (after (.externalTick false usualOrder) awake).due = [] ∧ Due.drainDeadline 1 ∈ (after (.externalTick false usualOrder) ending).due
    ∧ ((after (.externalTick false usualOrder) ending).carrier 1).state = .draining := by decide +kernel
theorem wit_LocalTickResult : holding.due = [] ∧ holding.timer.state = .holdover ∧ PlainTick holding usualOrder
    ∧ State.reset.due = [] ∧ State.reset.timer.state = .unsynced ∧ PlainTick State.reset usualOrder ∧ awake.timer.state ≠ .holdover :=
  ⟨by decide, by decide, plain_usual _, by decide, by decide, plain_usual _, by decide⟩
theorem wit_SlipResult : awake.timer.slot ≠ 4095 ∧ awake.timer.state = .locked ∧ awake.due = [] ∧ PlainTick awake usualOrder
    ∧ awake.closesWindow = false ∧ lastTick.closesWindow = true := ⟨by decide, by decide, by decide, plain_usual _, by decide⟩

theorem wit_BoundaryTickHandsOn : lastTick.due = [] ∧ lastTick.loader.applied.isSome = true ∧ lastTick.closesWindow = true
    ∧ lastTick.timer.state ≠ .holdover ∧ lastTick.slips true = true
    ∧ ({ holding with timer := { holding.timer with windowTicks := 499 } } : State).closesWindow = true
    ∧ usualOrder.slotsLate = false ∧ usualOrder.arbiterLate = false := by decide
theorem wit_TickLossEntersHoldover : Quiet awake ∧ Quiet (withDue awake [.verdicts true [], .grant 1]) ∧ awake.due = []
    ∧ awake.timer.state ≠ .holdover ∧ holding.timer.state = .holdover ∧ awake.loader.applied.isSome = true
    ∧ awake.closesWindow = false ∧ PlainTick awake usualOrder ∧ night.isCapacity 2 = true :=
  ⟨quiet_of _ rfl, quiet_of _ rfl, by decide, by decide, by decide, by decide, by decide, plain_usual _, by decide⟩
theorem wit_ClockSecondResult : firstDue (fun d => d == .clockSecond) [.clockSecond] = some (.clockSecond, [])
    ∧ ({ awake.timer with seconds := 86398 } : SlotTimer).seconds < 86399 := by decide
/-- A request and a report write wait, with the turn given. -/
def bothWait (turn : Side) : State :=
  { awake with
    transit := { awake.transit with waiting := [readOf 0 1], turn := turn }
    report := { awake.report with pending := [.producerUpdate] } }

/-- R55: with 31 entries in flight the slot is free, with 32 it is not; where both wait the turn decides. -/
theorem wit_WaitingRequestServed : Quiet awake ∧ Quiet (bothWait .report)
    ∧ (bothWait .report).arbiterChoice = some .upstream ∧ (bothWait .upstream).arbiterChoice = some .report
    ∧ (inFlight (bothWait .report) (List.replicate 31 (upstreamEntryOf false none))).arbiterChoice = some .upstream
    ∧ (inFlight (bothWait .report) (List.replicate 32 (upstreamEntryOf false none))).arbiterChoice = none
    ∧ (after .reportGrant (bothWait .report)).outside.sentDownstream.map Request.master = [2, 7]
    ∧ (after (.upstreamRequest none) (bothWait .upstream)).outside.sentDownstream.map Request.master = [7, 2]
    ∧ (bothWait .report).report.ring.isSome = true ∧ (bothWait .report).transit.owedAnswers = 0 :=
  ⟨quiet_of _ rfl, quiet_of _ rfl, by decide⟩
theorem wit_BlockRule_top : (readOf 0xFFFFFFFFF8 2).wellFormed = true ∧ crossesBlock (readOf 0xFFFFFFFFF8 2) = true := by decide
theorem wit_BlockRule : (readOf 0x30 3).wellFormed = true ∧ (readOf 0x30 2).wellFormed = true
    ∧ crossesBlock (readOf 0x38 2) = true ∧ crossesBlock (readOf 0x38 1) = false := by decide

theorem upstreamNext_awake : UpstreamNext awake := by unfold UpstreamNext; decide

theorem wit_RefusedRequest : Quiet awake ∧ UpstreamNext awake ∧ requestFaults (readOf 0x30 3) awake.transit ≠ []
    ∧ awake.transit.inFlight = [] := ⟨quiet_of _ rfl, upstreamNext_awake, by decide⟩
theorem wit_RefusedRequest_behind : Quiet (inFlight awake [upstreamEntryOf false none])
    ∧ UpstreamNext (inFlight awake [upstreamEntryOf false none])
    ∧ requestFaults { readOf 0 1 with master := 7 } (inFlight awake [upstreamEntryOf false none]).transit ≠ [] :=
  ⟨quiet_of _ rfl, by unfold UpstreamNext; decide, by decide⟩
theorem wit_ForwardedRead : Quiet night ∧ UpstreamNext night ∧ requestFaults (readOf 0x802000 1) night.transit = []
    ∧ night.transit.classify (blockOf 0x802000) = .descriptor 2 ∧ night.transit.fronthaul = some 2
    ∧ (night.carrier 2).state.dark = true ∧ (night.carrier 1).state.dark = false
    ∧ night.transit.classify (blockOf 0x801000) = .descriptor 1 :=
  ⟨quiet_of _ rfl, by unfold UpstreamNext; decide, by decide⟩
/-- A write of all 8 beats covers both cells, one at 0x20 the second alone, one at 0x28 neither, and 4 beats at 0 the first. -/
theorem wit_ForwardedWrite : Quiet night ∧ UpstreamNext night
    ∧ requestFaults (cellWrite 1 0x802020 (firstBeat 12 2 50 0 0)) night.transit = []
    ∧ night.transit.classify 0x802000 = .descriptor 2 ∧ night.transit.scheduler = some 1
    ∧ (cellWrite 1 0x802020 0).address.toNat % 64 = 0x20 ∧ (cellWrite 1 0x802020 7).data[0]? = some { data := 7, enables := 0xFF }
    ∧ (List.replicate 8 (1 : Nat))[(0x20 - 0) / 8]?.isSome = true ∧ (List.replicate 4 (1 : Nat)).length ≤ (0x20 - 0) / 8
    ∧ 0x20 < (cellWrite 1 0x802028 0).address.toNat % 64
    ∧ requestFaults (cellWrite 3 0x802020 0) night.transit = [] := ⟨quiet_of _ rfl, by unfold UpstreamNext; decide, by decide⟩
theorem wit_DownstreamResponseResult :
    Quiet (inFlight awake [upstreamEntryOf false none, upstreamEntryOf true none]) ∧ awake.transit.owedAnswers = 0
    ∧ (upstreamEntryOf true none).disposition = .forwarded ∧ awake.transit.inFlight = []
    ∧ (after (.powerOnReset 0 0) (inFlight awake [upstreamEntryOf false none])).transit.owedAnswers = 1 :=
  ⟨quiet_of _ rfl, by decide⟩
/-- R43: a request answered locally has not been sent, and is owed no answer. -/
theorem test_owed_answers : (after (.powerOnReset 0 0) (inFlight awake
    [upstreamEntryOf true none, { upstreamEntryOf false none with disposition := .localAnswer }])).transit.owedAnswers = 1 := by decide

/-- R62 with the slot counter at 10: one beat for each result. -/
theorem wit_DescriptorChecks :
    examine 2 .locked 10 { data := 0, enables := 0xFF } = .ignored
    ∧ examine 2 .locked 10 { data := firstBeat 12 2 50 0 0, enables := 0x7F } = .refused .partialDescriptor
    ∧ examine 2 .locked 10 { data := firstBeat 12 3 50 0 0, enables := 0xFF } = .refused .misfiledDescriptor
    ∧ examine 2 .holdover 10 { data := firstBeat 12 2 50 0 0, enables := 0xFF } = .refused .unsyncedDescriptor
    ∧ examine 2 .locked 10 { data := firstBeat 10 2 50 0 0, enables := 0xFF } = .refused .lateDescriptor
    ∧ examine 2 .locked 10 { data := firstBeat 14 2 50 0 0, enables := 0xFF } = .held
    ∧ examine 2 .locked 10 { data := firstBeat 15 2 50 0 0, enables := 0xFF } = .refused .earlyDescriptor
    ∧ examine 2 .locked 10 { data := firstBeat 2057 2 50 0 0, enables := 0xFF } = .refused .earlyDescriptor
    ∧ examine 2 .locked 10 { data := firstBeat 2058 2 50 0 0, enables := 0xFF } = .refused .lateDescriptor := by decide

theorem wit_HoldingKeepsOrder :
    leadsAscend 4094 0 [{ tag := 4095, rb := 1, beacon := false }, { tag := 2, rb := 3, beacon := true }]
    ∧ 1 ≤ leadDistance 0 4094 ∧ leadDistance 0 4094 ≤ 4 := by unfold leadsAscend leadsAscend leadsAscend; decide
theorem wit_FilterKeepsRange : (16000 : Nat) ≤ 16000 ∧ 500 * 275 ≤ 500 * 275 ∧ utilisation (500 * 275) 500 275 = 1000 := by decide

/-- Carrier 1 has used all of its 100 RB in each of 300 measured slots, and its L stands at its greatest value. -/
def summed : State :=
  awake.setFigures 1 { Figures.zero with windowSum := 30000, measured := 300, load := 16000, lastU := 1000 }

theorem wit_FilterKeepsRange_figures : LoadsInRange summed ∧ SumsFit summed ∧ SleepLaw summed ∧ HeldLaw summed
    ∧ ParamsInForce summed ∧ summed.due = [] ∧ makesTick .windowBoundary = false
    ∧ ((after .windowBoundary (withDue summed [.boundary 1 true true])).figures 1).load = 16000 := by
  refine ⟨by unfold LoadsInRange; decide, ⟨fun c => ?_, by decide⟩, by unfold SleepLaw; decide, ⟨fun c => ?_, by decide⟩,
    ⟨by decide, by decide, fun c h => ⟨_, rfl, ?_⟩⟩, by decide, by decide, by decide +kernel⟩
  · by_cases h : c = 1
    · exact .inr ⟨_, rfl, by subst h; decide⟩
    · exact .inl (by revert c; decide)
  · have h : summed.held c = [] := by revert c; decide
    rw [h]
    exact ⟨trivial, by simp, by simp⟩
  · revert c; decide
theorem wit_BoundaryMeasures : Quiet (withDue awake [.boundary 1 true true]) ∧ awake.evaluator.params.isSome = true
    ∧ firstDue isBoundary [.boundary 1 true true] = some (.boundary 1 true true, []) := ⟨quiet_of _ rfl, by decide⟩

def siteParams : WindowParams := { w := 500, k := 1, entries := tabulate siteValues }

theorem wit_VerdictListShape : night.nightPredicate = false ∧ evalCapacity siteParams night 2 = true
    ∧ (night.carrier 2).state.sleeping = true ∧ (verdictSteps siteParams night true).map Verdict.carrier = [1, 2]
    ∧ (verdictSteps siteParams night true).map Verdict.kind = [.wakeLight, .wakeDeep] ∧ night.timer.nightHold = none := by decide

/-- Night, low load: carrier 1 is a drain candidate and is admitted. -/
def evening : State := { awake with timer := { awake.timer with clockSet := true, seconds := 80000 } }

/-- The evening with the anchor's load and the loads of carriers 1 and 2 given. -/
def loaded (s : State) (a b c : Nat) : State :=
  State.setFigures (State.setFigures (s.setFigures 0 { Figures.zero with load := a }) 1 { Figures.zero with load := b }) 2
    { Figures.zero with load := c }

def nightOf (b c : CarrierState) : State :=
  { site .on b c 10 with timer := { (site .on b c 10).timer with clockSet := true, seconds := 80000 } }

/-- Steps 4 to 7, each at its bounds: the overload test at 16 × 800, wake for load at 16 × 90, deepen at 16 × 60, drain at
16 × 80 within 16 × 500 in all (carriers of 100 RB beside an anchor of 100 RB). -/
theorem wit_VerdictListShape_night : evening.nightPredicate = true
    ∧ (verdictSteps siteParams evening true).map Verdict.kind = [.drain, .drain]
    ∧ verdictSteps siteParams evening false = []
    ∧ (verdictSteps siteParams (loaded (nightOf .draining .light) 12801 0 0) true).map Verdict.kind = [.cancelDrain, .wakeLight]
    ∧ (verdictSteps siteParams (loaded (nightOf .on .deep) 12801 0 0) true).map Verdict.kind = [.wakeDeep]
    ∧ (verdictSteps siteParams (loaded (nightOf .light .light) 12800 1440 960) true).map (fun v => (v.carrier, v.kind))
      = [(1, .wakeLight), (2, .deepen)]
    ∧ verdictSteps siteParams (loaded (nightOf .light .light) 12800 1439 961) true = []
    ∧ (verdictSteps siteParams (loaded evening 6720 1280 1280) true).map Verdict.carrier = [1]
    ∧ verdictSteps siteParams (loaded evening 6721 1280 1281) true = [] := by decide +kernel
theorem wit_AdmissionWithinLimit : anchorInOn siteParams evening 0 = some 0 ∧ overloaded siteParams evening 0 = false
    ∧ (siteParams.entries.get 0).limits = some { cAdm := 500, cOvl := 800 } ∧ DrainCandidate siteParams evening [] 0 1
    ∧ (drainSector siteParams (loaded evening 6720 1280 1280) [] 0).map Verdict.carrier = [1]
    ∧ anchorInOn siteParams evening 1 = none ∧ overloaded siteParams (loaded evening 12801 0 0) 0 = true := by
  unfold DrainCandidate; decide +kernel

/-- R40: the values held back at an application answer, whatever is in force. -/
theorem wit_VerdictListShape_held :
    (let held (h : NightHold) : State := { evening with timer := { evening.timer with nightHold := some h } }
    (held { nightStart := 79200, nightEnd := 80000, heartbeat := .alive }).nightPredicate = false
    ∧ (held { nightStart := 80000, nightEnd := 80001, heartbeat := .alive }).nightPredicate = true
    ∧ (held { nightStart := 80000, nightEnd := 21600, heartbeat := .lapsed }).nightPredicate = false) := by decide

/-- R100: a clean boundary outstanding at a tick loss has its DRAINs issued and applied before the HOLDOVER cause, in each order. -/
theorem test_tick_loss_with_boundary : let s := withDue evening [.boundary 1 true true]
    (s.takeDrains.carrier 1).state = .draining
    ∧ ((after (.tickLoss .beforeOutstanding usualOrder) s).carrier 1).state = .on
    ∧ ((after (.tickLoss .afterOutstanding usualOrder) s).carrier 1).state = .on := by decide +kernel

def oneVerdict (c : Carrier) (k : VerdictKind) : Verdict := { carrier := c, kind := k, cause := .loadHigh, cls := .load }

theorem wit_VerdictTable :
    firstDue isVerdicts [.verdicts false [oneVerdict 1 .drain]] = some (.verdicts false [oneVerdict 1 .drain], [])
    ∧ (awake.carrier 1).state = .on ∧ awake.maySleep 1 = true ∧ (night.carrier 1).state = .light ∧ night.maySleep 1 = true
    ∧ ((site .on .draining .on 10).carrier 1).state = .draining ∧ (night.carrier 2).state = .deep ∧ awake.maySleep 0 = false := by decide
/-- R24: the anchor in ON, a capacity carrier, and its keep-awake bit. -/
theorem wit_VerdictTable_maySleep : awake.maySleep 1 = true
    ∧ ({ awake with loader := { awake.loader with mirror := [(0x10, 2)] } } : State).maySleep 1 = false
    ∧ ({ awake with loader := { awake.loader with mirror := [(0x10, 2)] } } : State).maySleep 2 = true
    ∧ (site .faulted .on .on 10).maySleep 1 = false := by decide
theorem wit_VerdictListParts :
    Quiet (withDue awake [.grant 1, .verdicts true [oneVerdict 1 .drain, oneVerdict 2 .drain]])
    ∧ firstDue isVerdicts [.verdicts true []] = some (.verdicts true [], [])
    ∧ firstDue isVerdicts [.grant 1, .verdicts true [oneVerdict 1 .drain, oneVerdict 2 .drain]]
      = some (.verdicts true [oneVerdict 1 .drain, oneVerdict 2 .drain], [.grant 1]) ∧ awake.isCapacity 1 = true :=
  ⟨quiet_of _ rfl, by decide⟩
theorem wit_GrantRule :
    awake.candidate = none ∧ queuedSite.candidate = some { carrier := 1, cls := .load, ordinal := 1 }
    ∧ queuedSite.arbiter.queue = [] ++ { carrier := 1, cls := .load, ordinal := 1 } :: []
    ∧ queuedSite.grantable { carrier := 1, cls := .load, ordinal := 1 } = true ∧ 0 < queuedSite.globals.spacing
    ∧ (queuedSite.setCarrier 1 { queuedSite.carrier 1 with sleepCount := some 4 }).candidate = none
    ∧ (queuedSite.setCarrier 1 { queuedSite.carrier 1 with sleepCount := some 5 }).candidate.isSome = true
    ∧ ({ queuedSite with arbiter := { queuedSite.arbiter with spacing := 1 } } : State).grantable
      { carrier := 1, cls := .load, ordinal := 1 } = false := by decide
theorem wit_ExpiryAndNoticeAttempt : Quiet (withDue queuedSite [.spacingExpiry, .readyNotice 1])
    ∧ firstDue (fun d => d == .spacingExpiry) [.spacingExpiry, .readyNotice 1] = some (.spacingExpiry, [.readyNotice 1])
    ∧ firstDue (fun d => d == .readyNotice 1) [.spacingExpiry, .readyNotice 1] = some (.readyNotice 1, [.spacingExpiry])
    ∧ (∃ e ∈ queuedSite.arbiter.queue, e.carrier = 1) ∧ ∀ e ∈ queuedSite.arbiter.queue, e.carrier ≠ 2 :=
  ⟨quiet_of _ rfl, by decide⟩
theorem wit_MergeByBytes : (Memory.wf [(3, 7), (2047, 1)]) = true := by decide

theorem policyOpen_awake (o : Nat) (h : blockOf o = 0 ∨ blockOf o = 64) : PolicyOpen awake o := by
  unfold PolicyOpen
  refine ⟨by decide, by decide, by decide, ?_⟩
  have e : awake.transit.policyBase + o = o := by rw [show awake.transit.policyBase = 0 from rfl, Nat.zero_add]
  rw [e]
  rcases h with h | h <;> rw [h] <;> decide

/-- A write clear of the live words, and one over all four. -/
theorem wit_PolicyWriteMerges : Quiet awake ∧ UpstreamNext awake ∧ PolicyOpen awake (8 * (8 : BitVec 8).toNat)
    ∧ PolicyOpen awake (8 * (0 : BitVec 8).toNat)
    ∧ touches 64 [{ data := 5, enables := 0xFF }] 0x004 4 = false ∧ touches 64 [{ data := 5, enables := 0xFF }] 0x008 2 = false
    ∧ touches 64 [{ data := 5, enables := 0xFF }] 0x00C 4 = false ∧ touches 64 [{ data := 5, enables := 0xFF }] 0x010 3 = false
    ∧ (let whole : List Beat := List.replicate 3 { data := 5, enables := 0xFF }
      touches 0 whole 0x004 4 = true ∧ touches 0 whole 0x008 2 = true ∧ touches 0 whole 0x00C 4 = true
        ∧ touches 0 whole 0x010 3 = true) :=
  ⟨quiet_of _ rfl, upstreamNext_awake, policyOpen_awake _ (by decide), policyOpen_awake _ (by decide), by decide⟩
theorem wit_HeartbeatWriteResult : Quiet awake ∧ UpstreamNext awake ∧ PolicyOpen awake 0x000 ∧ awake.loader.applied.isSome = true
    ∧ awake.globals.heartbeatCode ≠ 0 ∧ awake.loader.heartbeat = .alive ∧ State.reset.loader.applied = none :=
  ⟨quiet_of _ rfl, upstreamNext_awake, policyOpen_awake _ (by decide), by decide⟩
theorem wit_ConsumerIndexWriteResult : Quiet awake ∧ UpstreamNext awake ∧ PolicyOpen awake 0x008
    ∧ awake.loader.applied = some sitePolicy ∧ sitePolicy.globals.ringCapacity = 16
    ∧ (awake.report.producer - (65520 : BitVec 16)).toNat = 16 ∧ (awake.report.producer - (65519 : BitVec 16)).toNat = 17 :=
  ⟨quiet_of _ rfl, upstreamNext_awake, policyOpen_awake _ (by decide), by decide⟩
theorem wit_ClockSetWriteResult : Quiet awake ∧ UpstreamNext awake ∧ PolicyOpen awake 0x008
    ∧ (after (.clockSetWrite 86399 15) awake).timer.clockSet = true ∧ (after (.clockSetWrite 86400 15) awake).report.latch.isSome = true
    ∧ (after (.clockSetWrite 0xFFFFFFFF 15) evening).timer.clockSet = false :=
  ⟨quiet_of _ rfl, upstreamNext_awake, policyOpen_awake _ (by decide), by decide⟩
theorem wit_KeepAwakeWriteResult : Quiet awake ∧ UpstreamNext awake ∧ PolicyOpen awake 0x010 ∧ awake.keepAwake 1 = false :=
  ⟨quiet_of _ rfl, upstreamNext_awake, policyOpen_awake _ (by decide), by decide⟩

def staging (m : Memory) : State := withDue { awake with loader := { awake.loader with mirror := m } } [.generation]

theorem wit_GenerationNotApplied : Quiet (staging [(0, 9)])
    ∧ firstDue (fun d => d == .generation) (staging [(0, 9)]).due = some (.generation, [])
    ∧ (staging []).loader.staged = false ∧ (staging [(0, 9)]).loader.staged = true
    ∧ validate (staging [(0, 9)]) (readPolicy (staging [(0, 9)]).loader.mirror) = some (.masterClash, 0) :=
  ⟨quiet_of _ rfl, by decide⟩

/-- The small site's policy with one entry changed. -/
def withEntry (c : Carrier) (f : CarrierValues → CarrierValues) : Policy :=
  { sitePolicy with entries := tablePut sitePolicy.entries c (f (siteValues c)) }

/-- R141, R142: each reason in turn, with the index it reports; and none. -/
theorem test_refusal_reasons :
    validate awake { sitePolicy with globals := { siteGlobals with scheduler := 2 } } = some (.masterClash, 2)
    ∧ validate awake (withEntry 1 (fun v => { v with sector := 6 })) = some (.sectorRange, 1)
    ∧ validate awake (withEntry 1 (fun v => { v with role := .anchor })) = some (.anchorCount, 0)
    ∧ validate awake { sitePolicy with globals := { siteGlobals with reportBase := 0x900800 } } = some (.windowShape, 25)
    ∧ validate awake (withEntry 2 (fun v => { v with windowBase := 0x801000 })) = some (.windowOverlap, 1)
    ∧ validate awake { sitePolicy with globals := { siteGlobals with reportBase := 0 } } = some (.windowOverlap, 24)
    ∧ validate awake { sitePolicy with globals := { siteGlobals with ringCapacity := 17 } } = some (.ringShape, 25)
    ∧ validate (site .on .deep .on 10) (withEntry 1 (fun v => { v with rbMax := 90 })) = some (.busyCarrier, 1)
    ∧ validate (site .on .deep .on 10) (withEntry 2 (fun _ => .cleared)) = some (.busySector, 0)
    ∧ validate awake (withEntry 2 (fun _ => .cleared)) = none ∧ validate awake sitePolicy = none := by decide +kernel

/-- A mirror with masters 1 and 2, capacity 16 and one anchor with its window at 0x800000, generation 2, and the ring at
0x900000. -/
def goodMirror : Memory :=
  [(0x000, 2), (0x042, 1), (0x043, 2), (0x04A, 16), (0x062, 0x90), (0x100, 3), (0x10A, 0x80)]

def freshStart : State := withDue { State.reset with loader := { State.reset.loader with mirror := goodMirror } } [.generation]

theorem wit_GenerationApplied : Quiet freshStart ∧ freshStart.loader.staged = true
    ∧ firstDue (fun d => d == .generation) freshStart.due = some (.generation, [])
    ∧ validate freshStart (readPolicy freshStart.loader.mirror) = none
    ∧ (freshStart.carrier 0).state = .absent ∧ ((clampPolicy (readPolicy goodMirror)).entries.get 0).present = true :=
  ⟨quiet_of _ rfl, by decide⟩

/-- The generation of `goodMirror` in force with its anchor in ON, and ready sensing turned on by the next. -/
def newlySensed : State :=
  let p := clampPolicy (readPolicy goodMirror)
  let s := State.reset.setCarrier 0 { CarrierRecord.vacant with values := p.entries.get 0, state := .on }
  withDue { s with
    loader := { s.loader with
      applied := some p
      mirror := [(0x000, 3), (0x042, 1), (0x043, 2), (0x04A, 16), (0x062, 0x90), (0x100, 19), (0x10A, 0x80)] }
    report := { s.report with ring := some (ringOf p) } } [.generation]

theorem wit_GenerationApplied_next : Quiet newlySensed ∧ newlySensed.loader.staged = true
    ∧ firstDue (fun d => d == .generation) newlySensed.due = some (.generation, [])
    ∧ validate newlySensed (readPolicy newlySensed.loader.mirror) = none
    ∧ NewlyLost newlySensed (clampPolicy (readPolicy newlySensed.loader.mirror)) 0
    ∧ newlySensed.report.ring = some (ringOf (clampPolicy (readPolicy newlySensed.loader.mirror)))
    ∧ newlySensed.loader.applied.isSome = true ∧ newlySensed.evaluator.lastEvaluated ≠ newlySensed.timer.windowNumber - 1
    ∧ newlySensed.timer.nightHold = none :=
  ⟨quiet_of _ rfl, by unfold NewlyLost; decide +kernel⟩
/-- The same with the anchor in FAULTED: queued by the application, its entry granted at once. -/
def faultedAnchor : State :=
  newlySensed.setCarrier 0 { newlySensed.carrier 0 with state := .faulted }

theorem wit_GenerationApplied_entries : policyQueued faultedAnchor (clampPolicy (readPolicy faultedAnchor.loader.mirror)) 0 = true
    ∧ ((after .generationApplication faultedAnchor).carrier 0).queuedClass = some .routine
    ∧ (after .generationApplication faultedAnchor).due = [.grant 0] ∧ (after .generationApplication faultedAnchor).arbiter.ordinal = 1
    ∧ anchorLost newlySensed (clampPolicy (readPolicy newlySensed.loader.mirror)) 0 = true := by decide +kernel
theorem wit_ValidWindowsDisjoint : validate freshStart (readPolicy goodMirror) = none
    ∧ (windowTable 0 (clampPolicy (readPolicy goodMirror))).length = 3 := by decide
theorem wit_ClampsInRange : (readEntry goodMirror 0).present = true ∧ (clampEntry (readEntry goodMirror 0)).limits
    = some { cAdm := 0, cOvl := 1 } ∧ (siteValues 0).tDeep ≤ (siteValues 0).tSleep ∧ (siteValues 0).tSleep < (siteValues 0).tWake
    ∧ (siteValues 0).limits = some { cAdm := 500, cOvl := 800 } ∧ 24 ≤ (siteValues 0).rbMax ∧ (siteValues 0).rbMax ≤ 275
    ∧ (readEntry goodMirror 0).rbMax < 24 ∧ (clampPolicy sitePolicy).globals.budgetLimit = 4
    ∧ (clampPolicy { sitePolicy with globals := { siteGlobals with budgetLimit := 0 } }).globals.budgetLimit = 2
    ∧ (clampPolicy { sitePolicy with globals := { siteGlobals with budgetLimit := 17 } }).globals.budgetLimit = 16
    ∧ (clampPolicy { sitePolicy with entries := tabulate fun _ => .cleared }).globals.budgetLimit = 4 := by decide +kernel
theorem wit_FabricResetResult : Quiet night ∧ night.loader.applied.isSome = true ∧ night.globals.heartbeatCode ≠ 0
    ∧ night.loader.heartbeat = .alive ∧ State.reset.loader.applied = none := ⟨quiet_of _ rfl, by decide⟩
theorem wit_HeartbeatLapseResult :
    firstDue (fun d => d == .heartbeatLapse) [.heartbeatLapse] = some (.heartbeatLapse, [])
    ∧ ending.due = [] ∧ ending.timer.state ≠ .holdover ∧ ending.loader.applied.isSome = true ∧ ending.closesWindow = false
    ∧ ending.loader.heartbeatTimer = some 4095 ∧ ending.globals.heartbeatCode * 4096 ≤ 4095 + 1
    ∧ ending.isCapacity 1 = true := by decide
theorem wit_RecordAdmission : awake.report.ring.isSome = true ∧ awake.report.admits = true
    ∧ ({ awake.report with producer := 15 } : ReportUnit).admits = true
    ∧ ({ awake.report with producer := 16 } : ReportUnit).admits = false := by decide
theorem wit_RecordResponseWays :
    (({ awake.report with inFlightRecords := [true], producer := 15 } : ReportUnit).recordAnswered 16 .ok).producer = 16
    ∧ (({ awake.report with inFlightRecords := [true], pending := [.producerUpdate] } : ReportUnit).recordAnswered 16 .ok).pending
      = [.producerUpdate]
    ∧ (({ awake.report with inFlightRecords := [true], pending := List.replicate 16 (.statusBlock 0 []) } : ReportUnit).recordAnswered
      16 .ok).updateOwed = true
    ∧ (({ awake.report with inFlightRecords := [true, true], producer := 16 } : ReportUnit).recordAnswered 16 .ok).inFlightRecords = [false]
    ∧ (({ awake.report with inFlightRecords := [false, true] } : ReportUnit).recordAnswered 16 .error).inFlightRecords = [true] := by decide
theorem wit_ReportGrantResult_layout : RecordFits { window := 0, seconds := 2 ^ 32 - 1, slot := 4095, body := .policyRefused 9 .ringShape 255 }
    ∧ RecordFits { window := 0, seconds := 0, slot := 0, body := .fabricReset } := by
  unfold RecordFits; decide
theorem wit_ReportGrantResult : Quiet awake ∧ awake.slotFree = true ∧ awake.report.ring = some (ringOf sitePolicy)
    ∧ awake.transit.waiting = [] := ⟨quiet_of _ rfl, by decide⟩

def latched : State := awake.latchFault { kinds := [.clockRange], master := 0, kind := .write, address := 8, window := some 24 }

theorem wit_FaultLatchRules : awake.report.latch = none ∧ latched.report.latch.isSome = true ∧ latched.report.admits = true
    ∧ ({ latched.report with producer := 16 } : ReportUnit).admits = false := by decide

/-- A boundary outstanding, with the pending queue as given. -/
def atBoundary (l : List ReportWrite) : State :=
  withDue { awake with report := { awake.report with pending := l } } [.boundary 1 true true]

/-- With 12 writes pending the four of the status block follow, and with 13 none does. -/
theorem wit_FaultLatchRules_boundary : Quiet (atBoundary [])
    ∧ firstDue isBoundary (atBoundary []).due = some (.boundary 1 true true, []) ∧ (atBoundary []).report.ring.isSome = true
    ∧ (after .windowBoundary (atBoundary (List.replicate 12 .producerUpdate))).report.pending.length = 16
    ∧ (after .windowBoundary (atBoundary (List.replicate 13 .producerUpdate))).report.pending.length = 13 :=
  ⟨quiet_of _ rfl, by decide +kernel⟩
theorem wit_StepKeepsBufferLaws : MirrorLaw awake ∧ InFlightLaw awake ∧ PendingLaw awake
    ∧ InFlightLaw (inFlight awake (List.replicate 32 (upstreamEntryOf false none))) := by
  unfold MirrorLaw InFlightLaw PendingLaw; decide
theorem wit_StepKeepsRingLaw : RingLaw awake := by unfold RingLaw; decide
theorem wit_StepKeepsHeldLaw : HeldLaw awake := by
  refine ⟨fun c => ?_, by decide⟩
  have h : awake.held c = [] := by revert c; decide
  rw [h]
  exact ⟨trivial, by simp, by simp⟩
theorem wit_StepKeepsSleepLaw : SleepLaw night ∧ HoldoverLaw holding
    ∧ HoldoverLaw (withDue { night with timer := holding.timer } [.failSafe .holdover]) := by
  unfold SleepLaw HoldoverLaw; decide
theorem wit_StepKeepsWakeLaw : WakeLaw queuedSite ∧ BudgetLaw queuedSite := by
  unfold WakeLaw BudgetLaw QueueOrder; decide

end Sys2Proof.Tests
end

section
/-! PROOF. The two drain counters at a tick (R98, R99): what the counting and the record's tick do to each, then the
obligation. -/

namespace Sys2Proof.Machine

theorem countUp_eq_min {limit n : Nat} (h : n ≤ limit) : countUp limit n = min (n + 1) limit := by
  unfold countUp
  split <;> omega

section Draining

variable {r : CarrierRecord} (hr : r.state = .draining)
include hr

theorem tick_drainElapsed_of_draining (slot : Option SlotUse) :
    (r.tick slot).drainElapsed = countUp Config.countLimit r.drainElapsed := by
  rw [CarrierRecord.tick.eq_def, hr]

theorem tick_emptyRun_of_retired (u : SlotUse) :
    (r.tick (some u)).emptyRun = if u.rb = 0 then countUp Config.emptyRunLimit r.emptyRun else 0 := by
  rw [CarrierRecord.tick.eq_def, hr]

theorem tick_emptyRun_of_not_retired : (r.tick none).emptyRun = r.emptyRun := by
  rw [CarrierRecord.tick.eq_def, hr]

end Draining

/-- Settles O14: the fold over the carriers leaves the record of `c` as its own tick does, and the counters stay within
their limits, so that counting up is the saturated successor. -/
theorem drainCounters : Obligations.DrainCounters := by
  intro s fresh c hstate hrun helapsed
  refine ⟨fun hpresent => ?retired, ?unlocked, fun locked => ?elapsed⟩
  case retired =>
    rw [slotsTick_carrier, if_pos ⟨rfl, hpresent⟩, tick_emptyRun_of_retired hstate,
      countUp_eq_min (limit := Config.emptyRunLimit) hrun]
    rfl
  case unlocked =>
    rw [slotsTick_carrier, if_neg (by simp), tick_emptyRun_of_not_retired hstate]
  case elapsed =>
    rw [slotsTick_carrier, tick_drainElapsed_of_draining hstate, countUp_eq_min (limit := Config.countLimit) helapsed]
    rfl

end Sys2Proof.Machine
end

section
/-! PROOF. The admission of a record (R152): the two conditions as propositions, what the Report Unit is after a hand
where they hold and where they do not, then the obligation. -/

namespace Sys2Proof.Machine

section Handing

variable {u : ReportUnit} {ring : Ring} (hring : u.ring = some ring)
include hring

theorem admits_iff : u.admits = true ↔ u.unconsumed + u.outstanding < ring.capacity ∧ u.placesTaken < Config.pendingLimit := by
  simp [ReportUnit.admits, hring]

theorem hand_of_admits (hadmits : u.admits = true) (r : Record) :
    u.hand r = { u with pending := u.pending ++ [.ringRecord u.gap r], gap := false } := by
  simp [ReportUnit.hand, hring, hadmits]

theorem hand_of_not_admits (hadmits : ¬ u.admits = true) (r : Record) : u.hand r = { u with gap := true } := by
  simp [ReportUnit.hand, hring, hadmits]

end Handing

/-- Settles O51: the two ways are the two values of `admits`, whose conditions are those of the statement; the frame is
that of `State.hand`. -/
theorem recordAdmission : Obligations.RecordAdmission := by
  intro s body ring hring
  refine ⟨fun hcell hplace => ?admitted, fun hfull => ?dropped, hand_changes s body⟩
  case admitted => exact hand_of_admits hring ((admits_iff hring).mpr ⟨hcell, hplace⟩) _
  case dropped =>
    refine hand_of_not_admits hring (fun hadmits => ?_) _
    obtain ⟨hcell, hplace⟩ := (admits_iff hring).mp hadmits
    exact hfull.elim hcell.not_ge hplace.not_ge

end Sys2Proof.Machine
end

section
/-! PROOF. How a law of the state is kept: the plain updates that the part's own events are made of, and what is kept by
every one of them is kept by the events themselves. -/

namespace Sys2Proof.Machine

/-- A property of the state is stable if the plain updates that the part's own events are made of keep it: each field names
one of them. The slot counter and the timer state stand, and a carrier keeps its values, but where a generation is taken
(`adopt` and `take`, R145). -/
structure Stable (P : State → Prop) : Prop where
  due : ∀ (s : State) (l : List Due), P s → P { s with due := l }
  record : ∀ (s : State) (c : Carrier) (r : CarrierRecord), r.values = (s.carrier c).values → P s → P (s.setCarrier c r)
  retire : ∀ (s : State) (c : Carrier) (slot : Slot), P s → P (s.setHeld c (listAfterRetirement (s.held c) slot))
  evaluator : ∀ (s : State) (e : LoadEvaluator), P s → P { s with evaluator := e }
  arbiter : ∀ (s : State) (a : WarmupArbiter), P s → P { s with arbiter := a }
  timer : ∀ (s : State) (t : SlotTimer), t.state = s.timer.state → t.slot = s.timer.slot → P s → P { s with timer := t }
  heartbeat : ∀ (s : State) (h : HeartbeatState) (n : Option Nat), P s →
    P { s with loader := { s.loader with heartbeat := h, heartbeatTimer := n } }
  refused : ∀ (s : State) (g : Word32), P s → P { s with loader := { s.loader with lastRefused := g } }
  hand : ∀ (s : State) (r : Record), P s → P { s with report := s.report.hand r }
  latch : ∀ (s : State) (l : Option LatchedFault), P s → P { s with report := { s.report with latch := l } }
  status : ∀ (s : State) (w : Word32), P s → P (s.rewriteStatus w)
  adopt : ∀ (s : State) (p : Policy), P s → P ((s.install p).takeRing p)
  take : ∀ (s : State) (p : Policy), P s → P (((s.transitTakes p).monitorTakes p).copyValues p)

/-- What every step of a fold keeps, the fold keeps. -/
theorem foldl_keeps {α : Type} {P : State → Prop} {f : State → α → State} (h : ∀ s a, P s → P (f s a)) (l : List α) {s : State}
    (hs : P s) : P (l.foldl f s) :=
  List.foldlRecOn l f hs fun s hs a _ => h s a hs

/-- What both ways keep, a choice keeps. -/
theorem ite_keeps {P : State → Prop} {q : Prop} [Decidable q] {s t : State} (hs : P s) (ht : P t) : P (if q then s else t) := by
  split
  · exact hs
  · exact ht

namespace Stable

variable {P : State → Prop} (hP : Stable P) {s : State}
include hP

/-! ### The arbiter and the carriers -/

theorem addDue (d : Due) (hs : P s) : P (s.addDue d) := hP.due s _ hs

theorem handRecord (b : RecordBody) (hs : P s) : P (s.hand b) := hP.hand s _ hs

theorem makeGrant (e : WakeEntry) (hs : P s) : P (s.makeGrant e) := by
  have granted := hP.arbiter s (s.makeGrant e).arbiter hs
  exact hP.due _ _ granted

theorem attempts (n : Nat) (hs : P s) : P (attempts n s) := by
  induction n generalizing s with
  | zero => exact hs
  | succ n ih =>
    rw [Machine.attempts]
    split
    · exact hs
    · exact ite_keeps (ih (hP.makeGrant _ hs)) hs

theorem attempt (hs : P s) : P s.attempt := hP.attempts _ hs

theorem enqueue (c : Carrier) (q : WakeClass) (hs : P s) : P (s.enqueue c q) := hP.attempt (hP.arbiter s _ hs)

theorem raiseEntry (c : Carrier) (q : WakeClass) (hs : P s) : P (s.raiseEntry c q) := by
  rw [State.raiseEntry]
  split
  · exact hs
  · exact hP.attempt (hP.arbiter s _ hs)

theorem release (c : Carrier) (hs : P s) : P (s.release c) := hP.attempt (hP.arbiter s _ hs)

theorem transition (c : Carrier) (st : CarrierState) (k : Cause) (q : Option WakeClass) (hs : P s) :
    P (s.transition c st k q) := by
  have entered := hP.record s c ((s.carrier c).enter st q) (enter_values _ _ _) hs
  exact hP.handRecord _ (ite_keeps (hP.evaluator _ _ entered) entered)

theorem queueCarrier (c : Carrier) (k : Cause) (q : WakeClass) (hs : P s) : P (s.queueCarrier c k q) :=
  hP.enqueue c q (hP.transition c _ k _ hs)

theorem raiseClass (c : Carrier) (k : Cause) (q : WakeClass) (hs : P s) : P (s.raiseClass c k q) := by
  rw [State.raiseClass]
  split
  · exact hs
  · refine ite_keeps ?_ hs
    exact hP.raiseEntry c q (hP.handRecord _ (hP.record s c _ rfl hs))

theorem wake (c : Carrier) (k : Cause) (q : WakeClass) (hs : P s) : P (s.wake c k q) := by
  rw [State.wake]
  split
  · exact hP.transition c _ k _ hs
  · exact hP.transition c _ k _ hs
  · exact hP.queueCarrier c k q hs
  · exact hP.raiseClass c k q hs
  all_goals exact hs

theorem wakeAll (which : State → Carrier → Bool) (k : Cause) (q : WakeClass) (hs : P s) : P (s.wakeAll which k q) :=
  foldl_keeps (fun _ c ht => ite_keeps (hP.wake c k q ht) ht) carriers hs

theorem readyLost (c : Carrier) (hs : P s) : P (s.readyLost c) :=
  ite_keeps (hP.wakeAll _ _ _ (hP.transition c _ _ _ hs)) (hP.transition c _ _ _ hs)

theorem endWarmup (c : Carrier) (st : CarrierState) (k : Cause) (hs : P s) : P (s.endWarmup c st k) :=
  hP.release c (hP.transition c st k none (hP.due s _ hs))

/-! ### The events of the carriers, the arbiter and the heartbeat -/

theorem takeFailSafe (f : FailSafe) (hs : P s) : P (s.takeFailSafe f) := hP.wakeAll _ _ _ hs

theorem takeDemand (c : Carrier) (u : Bool) (hs : P s) : P (s.takeDemand c u) := by
  rw [State.takeDemand]
  split
  · exact hP.queueCarrier c _ _ hs
  · exact hP.raiseClass c _ _ hs
  all_goals exact hs

theorem takeGrant (c : Carrier) (hs : P s) : P (s.takeGrant c) := by
  rw [State.takeGrant]
  split
  · have warming := hP.transition c .warming .grant none hs
    exact ite_keeps (hP.endWarmup c _ _ warming) warming
  all_goals exact hs

theorem takeWarmupExpiry (c : Carrier) (hs : P s) : P (s.takeWarmupExpiry c) := by
  rw [State.takeWarmupExpiry]
  split
  · exact ite_keeps (hP.endWarmup c _ _ hs) (hP.endWarmup c _ _ hs)
  all_goals exact hs

theorem takeDrainConfirmed (c : Carrier) (b : Bool) (hs : P s) : P (s.takeDrainConfirmed c b) := by
  rw [State.takeDrainConfirmed]
  split
  · exact hP.record _ c _ rfl (hP.transition c _ _ _ hs)
  all_goals exact hs

theorem takeDrainDeadline (c : Carrier) (hs : P s) : P (s.takeDrainDeadline c) := by
  rw [State.takeDrainDeadline]
  split
  · exact hP.record _ c _ rfl (hP.transition c _ _ _ hs)
  all_goals exact hs

theorem takeBeaconStarved (c : Carrier) (hs : P s) : P (s.takeBeaconStarved c) := by
  rw [State.takeBeaconStarved]
  split
  · exact hP.transition c _ _ _ hs
  all_goals exact hs

theorem takeReadyNotice (c : Carrier) (hs : P s) : P (s.takeReadyNotice c) := ite_keeps (hP.attempt hs) hs

theorem takeHeartbeatLapse (hs : P s) : P s.takeHeartbeatLapse :=
  hP.addDue _ (hP.handRecord _ (hP.heartbeat s .lapsed none hs))

theorem takeClockSecond (hs : P s) : P s.takeClockSecond := hP.timer s _ rfl rfl hs

theorem takeAtOnce (d : Due) (hs : P s) : P (s.takeAtOnce d) := by
  cases d with
  | clockSecond => exact hP.takeClockSecond hs
  | drainConfirmed c b => exact hP.takeDrainConfirmed c b hs
  | drainDeadline c => exact hP.takeDrainDeadline c hs
  | beaconStarved c => exact hP.takeBeaconStarved c hs
  | heartbeatLapse => exact hP.takeHeartbeatLapse hs
  | _ => exact hs

theorem settleAtOnce (hs : P s) : P s.settleAtOnce :=
  foldl_keeps (fun _ d ht => hP.takeAtOnce d ht) _ (hP.due s _ hs)

/-! ### The window's end -/

theorem measureAll (p : WindowParams) (hs : P s) : P (measureAll p s) :=
  foldl_keeps (fun t _ ht => ite_keeps (hP.evaluator t _ ht) ht) carriers hs

theorem runProcedure (w : Word32) (clean : Bool) (hs : P s) : P (s.runProcedure w clean) := by
  rw [State.runProcedure]
  split
  · exact hs
  · rename_i p _
    have measured := hP.measureAll p hs
    generalize Machine.measureAll p s = m at measured
    have asked := hP.timer m { m.timer with nightHold := none } rfl rfl measured
    exact hP.addDue _ (hP.evaluator _ _ asked)

theorem reportLatchedFault (w : Word32) (hs : P s) : P (s.reportLatchedFault w) := by
  rw [State.reportLatchedFault]
  split
  · exact hs
  · exact ite_keeps (hP.latch _ none (hP.hand s _ hs)) (hP.hand s _ hs)

theorem takeBoundary (w : Word32) (clean : Bool) (hs : P s) : P (s.takeBoundary w clean) :=
  hP.status _ w (hP.runProcedure w clean (hP.reportLatchedFault w hs))

theorem applyVerdict (v : Verdict) (hs : P s) : P (s.applyVerdict v) := by
  rw [State.applyVerdict]
  split
  · exact ite_keeps (hP.transition _ _ _ _ hs) hs
  · exact ite_keeps (hP.transition _ _ _ _ hs) hs
  · exact hP.transition _ _ _ _ hs
  · exact hP.transition _ _ _ _ hs
  · exact hP.queueCarrier _ _ _ hs
  · exact hs

theorem takeVerdicts (fresh : Bool) (l : List Verdict) (n : Nat) (hs : P s) : P (s.takeVerdicts fresh l n) := by
  have one : ∀ t c, P t → P (decrementBackoff t c) := fun t c ht =>
    ite_keeps (hP.record t c { t.carrier c with backoff := (t.carrier c).backoff - 1 } rfl ht) ht
  have lowered : P (if fresh then carriers.foldl decrementBackoff s else s) := ite_keeps (foldl_keeps one carriers hs) hs
  rw [State.takeVerdicts]
  exact foldl_keeps (fun _ v ht => hP.applyVerdict v ht) _ (ite_keeps (hP.due _ _ lowered) lowered)

/-! ### Taking up a generation -/

theorem applyCarrier (c : Carrier) (sensed : Bool) (hs : P s) : P (s.applyCarrier c sensed) := by
  have arrive : P (s.arrive c) :=
    ite_keeps (hP.queueCarrier c _ _ (hP.evaluator s _ hs)) (hP.transition c _ _ _ (hP.evaluator s _ hs))
  have withdraw : P (s.withdraw c) := hP.evaluator _ _ (hP.transition c _ _ _ hs)
  rw [State.applyCarrier]
  split
  · exact ite_keeps arrive hs
  · exact ite_keeps withdraw (ite_keeps (hP.readyLost c hs) hs)
  · exact ite_keeps withdraw (hP.queueCarrier c _ _ hs)
  all_goals exact hs

theorem timerTakes (before : Nat) (hs : P s) : P (s.timerTakes before) := by
  rw [State.timerTakes.eq_def]
  split
  · exact ite_keeps hs (hP.timer s _ rfl rfl hs)
  · exact ite_keeps (hP.addDue _ hs) hs
  · exact ite_keeps (hP.addDue _ hs) hs

theorem heartbeatTakes (old : Option Nat) (new : Nat) (hs : P s) : P (s.heartbeatTakes old new) := by
  rw [State.heartbeatTakes.eq_def]
  split
  · exact hP.heartbeat s _ _ hs
  · refine ite_keeps (ite_keeps hs (hP.heartbeat s _ _ hs)) (ite_keeps ?_ hs)
    exact ite_keeps (hP.handRecord _ (hP.heartbeat s _ _ hs)) (hP.heartbeat s _ _ hs)

theorem beginWindows (hs : P s) : P s.beginWindows := ite_keeps (hP.timer s _ rfl rfl hs) hs

theorem evaluatorTakes (p : Policy) (hs : P s) : P (s.evaluatorTakes p) := by
  rw [State.evaluatorTakes.eq_def]
  dsimp only
  split
  · exact hP.evaluator s _ hs
  · have kept := hP.timer s { s.timer with nightHold := some s.nightValues } rfl rfl hs
    exact ite_keeps (hP.evaluator s _ hs) (hP.evaluator _ _ kept)

theorem applyGeneration (written : Policy) (hs : P s) : P (s.applyGeneration written) := by
  refine hP.heartbeatTakes _ _ (hP.timerTakes _ (hP.attempt ?_))
  exact foldl_keeps (fun _ c ht => hP.applyCarrier c _ ht) carriers
    (hP.take _ _ (hP.handRecord _ (hP.adopt _ _ (hP.evaluatorTakes _ (hP.beginWindows hs)))))

theorem takeGeneration (hs : P s) : P s.takeGeneration := by
  rw [State.takeGeneration]
  refine ite_keeps ?_ hs
  split
  · exact hP.handRecord _ (hP.refused s _ hs)
  · exact hP.applyGeneration _ hs

/-! ### Ticks -/

theorem carrierTick (locked : Bool) (fresh : List Carrier) (c : Carrier) (hs : P s) : P (carrierTick locked fresh s c) := by
  rw [Machine.carrierTick]
  dsimp only
  split
  · refine hP.due _ _ (hP.record _ c _ ?_ (ite_keeps (hP.retire s c _ hs) (hP.evaluator _ _ (hP.retire s c _ hs))))
    split <;> simp [tick_values]
  · exact hP.due _ _ (hP.record s c _ (tick_values _ _) hs)

theorem slotsTick (locked : Bool) (fresh : List Carrier) (hs : P s) : P (s.slotsTick locked fresh) :=
  foldl_keeps (fun _ c ht => hP.carrierTick locked fresh c ht) carriers hs

theorem arbiterTick (hs : P s) : P s.arbiterTick :=
  ite_keeps (hP.addDue _ (hP.arbiter s _ hs)) (hP.arbiter s _ hs)

theorem heartbeatTick (hs : P s) : P s.heartbeatTick := by
  rw [State.heartbeatTick.eq_def]
  split
  · exact hs
  · exact ite_keeps (hP.addDue _ (hP.heartbeat s s.loader.heartbeat _ hs)) (hP.heartbeat s s.loader.heartbeat _ hs)

theorem clockTick (hs : P s) : P s.clockTick :=
  ite_keeps (ite_keeps (hP.addDue _ (hP.timer s _ rfl rfl hs)) (hP.timer s _ rfl rfl hs)) hs

theorem windowTick (locked : Bool) (hs : P s) : P (s.windowTick locked) :=
  ite_keeps hs (ite_keeps (hP.timer s _ rfl rfl hs) (hP.timer s _ rfl rfl hs))

theorem takeEarlyLapse (hs : P s) : P s.takeEarlyLapse :=
  ite_keeps (hP.takeFailSafe _ (hP.due _ _ (hP.settleAtOnce hs))) hs

/-- The counts of a tick at the clock, the window, the heartbeat, and a lapse taken early. -/
theorem countsTick (locked lapseFirst : Bool) (hs : P s) :
    P (if lapseFirst then ((s.clockTick.windowTick locked).heartbeatTick).takeEarlyLapse
      else (s.clockTick.windowTick locked).heartbeatTick) := by
  have counted := hP.heartbeatTick (hP.windowTick locked (hP.clockTick hs))
  exact ite_keeps (hP.takeEarlyLapse counted) counted

theorem firstTakings (locked sw aw lapseFirst : Bool) (hs : P s) : P (s.firstTakings locked sw aw lapseFirst) := by
  have counted := hP.countsTick locked lapseFirst hs
  have slots := ite_keeps (q := sw = true) counted (hP.slotsTick locked [] counted)
  exact ite_keeps slots (hP.arbiterTick slots)

theorem lateTakings (locked : Bool) (o : TickOrder) (hs : P s) : P (s.lateTakings locked o) := by
  have taken := hP.takeGeneration (hP.settleAtOnce hs)
  have slots := ite_keeps (q := o.slotsLate = true) (hP.slotsTick locked s.absentees taken) taken
  exact ite_keeps (hP.arbiterTick slots) slots

theorem handTick (locked : Bool) (o : TickOrder) (hs : P s) : P (s.handTick locked o) :=
  ite_keeps (hP.due _ _ (hP.lateTakings locked o (hP.firstTakings locked _ _ _ hs)))
    (hP.due _ _ (hP.firstTakings locked _ _ _ hs))

/-! ### A fabric reset -/

theorem loaderFabricReset (hs : P s) : P s.loaderFabricReset := ite_keeps (hP.takeHeartbeatLapse hs) hs

theorem reportFabricReset (hs : P s) : P s.reportFabricReset := hP.handRecord _ (hP.latch s none hs)

theorem orderedFabricReset (o : ResetOrder) (hs : P s) : P (s.orderedFabricReset o) := by
  cases o with
  | controllerLoaderReport => exact hP.reportFabricReset (hP.loaderFabricReset (hP.takeFailSafe _ hs))
  | controllerReportLoader => exact hP.loaderFabricReset (hP.reportFabricReset (hP.takeFailSafe _ hs))
  | loaderControllerReport => exact hP.reportFabricReset (hP.takeFailSafe _ (hP.loaderFabricReset hs))
  | reportControllerLoader => exact hP.loaderFabricReset (hP.takeFailSafe _ (hP.reportFabricReset hs))
  | loaderReportController => exact hP.addDue _ (hP.reportFabricReset (hP.loaderFabricReset hs))
  | reportLoaderController => exact hP.addDue _ (hP.loaderFabricReset (hP.reportFabricReset hs))

/-! ### Outstanding events -/

/-- An outstanding event but for tick loss, which makes a tick. -/
theorem takeDue (d : Due) (hd : d ≠ .tickLoss) (hs : P s) : P (s.takeDue d) := by
  cases d with
  | clockSecond => exact hP.takeClockSecond hs
  | drainConfirmed c b => exact hP.takeDrainConfirmed c b hs
  | drainDeadline c => exact hP.takeDrainDeadline c hs
  | beaconStarved c => exact hP.takeBeaconStarved c hs
  | heartbeatLapse => exact hP.takeHeartbeatLapse hs
  | readyNotice c => exact hP.takeReadyNotice c hs
  | warmupExpiry c => exact hP.takeWarmupExpiry c hs
  | spacingExpiry => exact hP.attempt hs
  | boundary w clean locked => exact hP.takeBoundary w clean hs
  | generation => exact hP.takeGeneration hs
  | verdicts fresh l => exact hP.takeVerdicts fresh l _ hs
  | grant c => exact hP.takeGrant c hs
  | demand c u => exact hP.takeDemand c u hs
  | failSafe f => exact hP.takeFailSafe f hs
  | tickLoss => exact absurd rfl hd

end Stable

end Sys2Proof.Machine
end

section
/-! PROOF. What has to be shown of a law for every step to keep it: the operations that the commands and the idle step are
made of. -/

namespace Sys2Proof.Machine

/-! ### Picking an outstanding event -/

/-- The event picked is one that `which` picks, it stood where the rest has been closed up, and none before it is picked. -/
theorem firstDue_eq_some {which : Due → Bool} {l : List Due} {d : Due} {rest : List Due}
    (h : firstDue which l = some (d, rest)) :
    which d = true ∧ ∃ before after, l = before ++ d :: after ∧ rest = before ++ after ∧ ∀ e ∈ before, which e = false := by
  induction l generalizing rest with
  | nil => cases h
  | cons a l ih =>
    rw [firstDue] at h
    split at h
    · rename_i ha
      obtain ⟨rfl, rfl⟩ := Prod.mk.inj (Option.some.inj h)
      exact ⟨ha, [], _, rfl, rfl, by simp⟩
    · rename_i ha
      split at h
      · rename_i e others he
        obtain ⟨rfl, rfl⟩ := Prod.mk.inj (Option.some.inj h)
        obtain ⟨hd, before, after, rfl, rfl, hb⟩ := ih he
        refine ⟨hd, a :: before, after, rfl, rfl, ?_⟩
        simpa [ha] using hb
      · cases h

theorem firstDue_picks {which : Due → Bool} {l : List Due} {d : Due} {rest : List Due}
    (h : firstDue which l = some (d, rest)) : which d = true := (firstDue_eq_some h).1

/-- The event picked and the rest are the events there were. -/
theorem firstDue_perm {which : Due → Bool} {l : List Due} {d : Due} {rest : List Due}
    (h : firstDue which l = some (d, rest)) : (d :: rest).Perm l := by
  obtain ⟨-, before, after, rfl, rfl, -⟩ := firstDue_eq_some h
  exact List.perm_middle.symm

theorem firstDue_rest {which : Due → Bool} {l : List Due} {d : Due} {rest : List Due}
    (h : firstDue which l = some (d, rest)) {e : Due} (he : e ∈ rest) : e ∈ l :=
  (firstDue_perm h).subset (List.mem_cons_of_mem d he)

theorem firstDue_eq_none {which : Due → Bool} {l : List Due} : firstDue which l = none ↔ ∀ d ∈ l, which d = false := by
  refine ⟨fun h => ?_, firstDue_none⟩
  induction l with
  | nil => simp
  | cons a l ih =>
    rw [firstDue] at h
    split at h
    · cases h
    · rename_i ha
      split at h
      · cases h
      · rename_i hn
        simpa [ha] using ih hn

/-- The event taken next: one that is not tick loss, or tick loss where every other event outstanding may wait. -/
theorem nextDue_cases {wait : Bool} {l : List Due} {d : Due} {rest : List Due} (h : nextDue wait l = some (d, rest)) :
    (d ≠ .tickLoss ∧ ∃ which, firstDue which l = some (d, rest))
      ∨ (d = .tickLoss ∧ firstDue (fun d => d == .tickLoss) l = some (d, rest) ∧ ∀ e ∈ l, e.mayWait = true ∨ e = .tickLoss) := by
  rw [nextDue] at h
  split at h
  · next x hx =>
    obtain rfl := Option.some.inj h
    exact .inl ⟨fun hd => by simpa [hd, Due.atOnce] using firstDue_picks hx, _, hx⟩
  · split at h
    · next x hx =>
      obtain rfl := Option.some.inj h
      exact .inl ⟨fun hd => by simpa [hd] using firstDue_picks hx, _, hx⟩
    · next hn =>
      refine .inr ⟨by simpa using firstDue_picks h, h, fun e he => ?_⟩
      have hp := firstDue_eq_none.mp hn e he
      by_cases ht : e = .tickLoss
      · exact .inr ht
      · exact .inl (by simp [ht] at hp; exact hp.2)

/-- Without the events that may wait left out, there is a next event wherever one is outstanding. -/
theorem nextDue_eq_none {l : List Due} (h : nextDue false l = none) : l = [] := by
  rw [nextDue] at h
  split at h
  · cases h
  · split at h
    · cases h
    · next hn =>
      refine List.eq_nil_iff_forall_not_mem.mpr fun d hd => ?_
      have hne := firstDue_eq_none.mp hn d hd
      have heq := firstDue_eq_none.mp h d hd
      simp_all

/-! ### The two ports -/

/-- The slot given, fewer than 32 entries are in flight (R55). -/
theorem inFlight_of_choice {s : State} {side : Side} (h : s.arbiterChoice = some side) :
    s.transit.inFlight.length < Config.inFlightLimit := by
  rw [State.arbiterChoice] at h
  split at h
  · next free => simp only [State.slotFree, Bool.and_eq_true, decide_eq_true_eq] at free; exact free.1
  · cases h

/-- What a law has to be kept by for a request taken to keep it: the operations that the taking is made of. -/
structure RequestsKeep (P : State → Prop) : Prop where
  turn : ∀ (s : State) (d : Side), P s → P { s with transit := { s.transit with turn := d } }
  send : ∀ (s : State) (r : Request), P s → P (s.send r)
  forwarded : ∀ (s : State) (e : InFlight), s.transit.inFlight.length < Config.inFlightLimit → e.disposition = .forwarded →
    P s → P (s.appendEntry e)
  refused : ∀ (s : State) (e : InFlight), s.transit.inFlight.length < Config.inFlightLimit → e.disposition = .localAnswer →
    P s → P (s.appendEntry e).answerLocals
  latchFault : ∀ (s : State) (f : BusFault), P s → P (s.latchFault f)
  handDescriptor : ∀ (s : State) (c : Carrier) (m : Master) (a : Address) (b : Beat) (block : Nat),
    s.transit.classify block = .descriptor c → P s → P (s.handDescriptor c m a b)
  merge : ∀ (s : State) (offset : Nat) (data : List Beat), P s →
    P { s with loader := { s.loader with mirror := mergeBeats s.loader.mirror offset data } }
  heartbeatWord : ∀ s : State, P s → P s.heartbeatWord
  consumerWord : ∀ (s : State) (a : Address), P s → P (s.consumerWord a)
  clockSetWord : ∀ (s : State) (a : Address), P s → P (s.clockSetWord a)
  keepAwakeWord : ∀ (s : State) (m : Memory), P s → P (s.keepAwakeWord m)

/-- What a law has to be kept by for the two ports to keep it: a request taken, a report write granted and a response taken. -/
structure PortsKeep (P : State → Prop) : Prop extends RequestsKeep P where
  waiting : ∀ (s : State) (l : List Request), P s → P { s with transit := { s.transit with waiting := l } }
  grantReport : ∀ s : State, s.transit.inFlight.length < Config.inFlightLimit → P s → P s.grantReport
  takeResponse : ∀ (s : State) (st : ResponseStatus) (beats : List BeatData), P s → P (s.takeResponse st beats)

namespace RequestsKeep

variable {P : State → Prop} (hP : RequestsKeep P) {s : State}
include hP

theorem handCell (c : Carrier) (r : Request) (cell block : Nat) (hc : s.transit.classify block = .descriptor c) (hs : P s) :
    P (s.handCell c r cell) := by
  rw [State.handCell]
  split
  · exact hP.handDescriptor s c _ _ _ block hc hs
  · exact hs

theorem takePolicyWrite (offset : Nat) (a : Address) (data : List Beat) (hs : P s) : P (s.takePolicyWrite offset a data) := by
  have merged := hP.merge s offset data hs
  have beat := ite_keeps (q := touches offset data 0x004 4 = true) (hP.heartbeatWord _ merged) merged
  have read := ite_keeps (q := touches offset data 0x008 2 = true) (hP.consumerWord _ a beat) beat
  have set := ite_keeps (q := touches offset data 0x00C 4 = true) (hP.clockSetWord _ a read) read
  exact ite_keeps (hP.keepAwakeWord _ _ set) set

theorem handWrite (r : Request) (hs : P s) : P (s.handWrite r) := by
  rw [State.handWrite.eq_def]
  split
  · exact ite_keeps (hP.takePolicyWrite _ _ _ hs) hs
  · rename_i c hc
    refine ite_keeps ?_ hs
    refine hP.handCell c r 0x20 (blockOf r.address.toNat) ?_ (hP.handCell c r 0x00 _ hc hs)
    exact (handCell_changes s c r 0).transit ▸ hc
  all_goals exact hs

theorem takeRequest (r : Request) (free : s.transit.inFlight.length < Config.inFlightLimit) (hs : P s) :
    P (s.takeRequest r) := by
  have turned := hP.turn s .upstream hs
  refine ite_keeps (q := requestFaults r s.transit = []) ?_ ?_
  · have sent := hP.send _ r turned
    rw [State.forwardRequest]
    dsimp only
    split
    · exact hP.forwarded _ _ free rfl sent
    · refine hP.forwarded _ _ ?_ rfl (hP.handWrite r sent)
      rw [(handWrite_changes _ r).transit]
      exact free
  · exact hP.refused _ _ free rfl (hP.latchFault _ _ turned)

end RequestsKeep

namespace PortsKeep

variable {P : State → Prop} (hP : PortsKeep P) {s : State}
include hP

theorem present (r : Request) (hs : P s) : P (s.present r) := hP.waiting s _ hs

theorem grantSide (side : Side) (free : s.transit.inFlight.length < Config.inFlightLimit) (hs : P s) : P (s.grantSide side) := by
  rw [State.grantSide.eq_def]
  split
  · exact hP.grantReport s free hs
  · split
    · exact hs
    · exact hP.takeRequest (s := { s with transit := { s.transit with waiting := _ } }) _ free (hP.waiting s _ hs)

theorem arbitrate (side : Side) (hs : P s) : P (s.arbitrate side) := by
  rw [State.arbitrate]
  split
  · exact hs
  · next first hf =>
    have granted := hP.grantSide first (inFlight_of_choice hf) hs
    dsimp only
    refine ite_keeps granted ?_
    split
    · exact granted
    · next second hsec => exact hP.grantSide second (inFlight_of_choice hsec) granted

theorem policyMasterWrites (offset : Nat) (data : List Beat) (hs : P s) : P (s.policyMasterWrites offset data) :=
  hP.arbitrate _ (hP.present _ hs)

end PortsKeep

/-! ### Every step -/

/-- What a law has to be kept by for every step to keep it. -/
structure Invariant (P : State → Prop) : Prop where
  ports : PortsKeep P
  pending : ∀ (s : State) (l : List Instr), P s → P { s with pending := l }
  settleAtOnce : ∀ s : State, P s → P s.settleAtOnce
  takeDue : ∀ (s : State) (which : Due → Bool) (d : Due) (rest : List Due), firstDue which s.due = some (d, rest) →
    d ≠ .tickLoss → P s → P (State.takeDue { s with due := rest } d)
  takeVerdicts : ∀ (s : State) (fresh : Bool) (list : List Verdict) (rest : List Due) (n : Nat),
    firstDue isVerdicts s.due = some (.verdicts fresh list, rest) → P s → P (State.takeVerdicts { s with due := rest } fresh list n)
  dropTickLoss : ∀ (s : State) (rest : List Due), firstDue (fun d => d == .tickLoss) s.due = some (.tickLoss, rest) → P s →
    P { s with due := rest }
  takeTickLoss : ∀ s : State, (∀ d ∈ s.due, d.mayWait = true ∨ d = .tickLoss) → P s → P s.takeTickLoss
  externalTick : ∀ (s : State) (mark : Bool) (o : TickOrder), P s → P (s.takeExternalTick mark o)
  localTick : ∀ (s : State) (o : TickOrder), s.timer.state = .holdover → P s → P (s.takeLocalTick o)
  tickLoss : ∀ (s : State) (cause : HoldoverOrder) (o : TickOrder), s.timer.state ≠ .holdover → P s →
    P ((s.enterHoldover.takeHoldoverCause cause o.handedWait).takeLocalTick o)
  readyRise : ∀ (s : State) (c : Carrier), P s → P (s.takeReadyRise c)
  readyFall : ∀ (s : State) (c : Carrier), P s → P (s.takeReadyFall c)
  fabricReset : ∀ (s : State) (o : ResetOrder), P s → P ((s.abandonUpstream.flushAll).orderedFabricReset o)
  powerOnReset : ∀ (s t : State) (b : BitVec 20) (m : Master), execPowerOnReset b m s = .next t → P s → P t
  passTime : ∀ s : State, P s → P s.passTime

/-- Taking outstanding events one after the other keeps what each taking keeps. -/
theorem takeSteps_keeps {P : State → Prop} {next : List Due → Option (Due × List Due)}
    (h : ∀ (s : State) (d : Due) (rest : List Due), next s.due = some (d, rest) → P s → P (State.takeDue { s with due := rest } d))
    (n : Nat) {s : State} (hs : P s) : P (takeSteps next n s) := by
  induction n generalizing s with
  | zero => exact hs
  | succ n ih =>
    rw [takeSteps]
    split
    · exact hs
    · next d rest hd => exact ih (h s d rest hd hs)

namespace Invariant

variable {P : State → Prop} (hP : Invariant P) {s : State}
include hP

theorem takeNext {wait : Bool} {d : Due} {rest : List Due} (h : nextDue wait s.due = some (d, rest)) (hs : P s) :
    P (State.takeDue { s with due := rest } d) := by
  obtain ⟨hd, which, hw⟩ | ⟨rfl, hw, hall⟩ := nextDue_cases h
  · exact hP.takeDue s which d rest hw hd hs
  · exact hP.takeTickLoss _ (fun e he => hall e (firstDue_rest hw he)) (hP.dropTickLoss s rest hw hs)

theorem settle (wait : Bool) (hs : P s) : P (s.settle wait) := takeSteps_keeps (fun _ _ _ h ht => hP.takeNext h ht) _ hs

theorem takeDrains (hs : P s) : P s.takeDrains := by
  refine takeSteps_keeps (fun t d rest h ht => hP.takeDue t _ d rest h ?_ ht) _ hs
  rintro rfl
  exact absurd (firstDue_picks h) (by decide)

theorem takeNamed {which : Due → Bool} (hw : which .tickLoss = false) (hs : P s) : P (s.takeNamed which) := by
  rw [State.takeNamed]
  split
  · next d rest h =>
    refine hP.takeDue s which d rest h ?_ hs
    rintro rfl
    exact absurd (firstDue_picks h) (by simp [hw])
  · exact hs

theorem idle (hs : P s) : P s.idle := by
  rw [State.idle]
  split
  · next h => exact hP.takeNext h hs
  · next hn =>
    split
    · next side hside => exact hP.ports.grantSide side (inFlight_of_choice hside) hs
    · refine ite_keeps (hP.takeTickLoss s (by simp [nextDue_eq_none hn]) hs) ?_
      split
      · next h =>
        refine hP.localTick s _ ?_ hs
        rw [State.localTickReached.eq_def] at h
        split at h <;> simp_all
      · exact hP.passTime s hs

/-- Every command keeps it. -/
theorem exec {t : State} (i : Instr) (h : exec i s = .next t) (hs : P s) : P t := by
  have settled := hP.settleAtOnce s hs
  cases i with
  | powerOnReset b m => exact hP.powerOnReset s t b m h hs
  | fabricReset o => cases h; exact hP.fabricReset _ o settled
  | externalTick mark o =>
    rw [Machine.exec, execExternalTick] at h
    split at h <;> cases h
    · exact hs
    · exact hP.externalTick _ mark o (hP.settle _ hs)
  | tickLoss cause o =>
    rw [Machine.exec, execTickLoss] at h
    split at h <;> cases h
    · exact settled
    all_goals exact hP.tickLoss _ cause o (by simp_all) settled
  | localTick o =>
    rw [Machine.exec, execLocalTick] at h
    split at h <;> cases h
    · next hh => exact hP.localTick _ o hh (hP.settle _ hs)
    all_goals exact hP.settle _ hs
  | drainConfirmed c => cases h; exact hP.takeNamed (by decide +revert) hs
  | drainDeadline c => cases h; exact hP.takeNamed rfl hs
  | beaconStarved c => cases h; exact hP.takeNamed rfl hs
  | readyNotice c => cases h; exact hP.takeNamed rfl settled
  | clockSecondAdvance => cases h; exact hP.takeNamed rfl hs
  | windowBoundary => cases h; exact hP.takeNamed rfl settled
  | verdictList upTo =>
    rw [Machine.exec, execVerdictList] at h
    split at h <;> cases h
    · next hv => exact hP.takeVerdicts _ _ _ _ _ hv settled
    · exact settled
  | generationApplication => cases h; exact hP.takeNamed rfl settled
  | upstreamRequest request =>
    cases request <;> cases h
    · exact hP.ports.arbitrate _ settled
    · exact hP.ports.arbitrate _ (hP.ports.present _ settled)
  | policyWrite beat data => cases h; exact hP.ports.policyMasterWrites _ _ settled
  | heartbeatWrite v e => cases h; exact hP.ports.policyMasterWrites _ _ settled
  | consumerIndexWrite v e => cases h; exact hP.ports.policyMasterWrites _ _ settled
  | clockSetWrite v e => cases h; exact hP.ports.policyMasterWrites _ _ settled
  | keepAwakeWrite v e => cases h; exact hP.ports.policyMasterWrites _ _ settled
  | downstreamResponse st beats => cases h; exact hP.ports.takeResponse _ st beats settled
  | reportGrant => cases h; exact hP.ports.arbitrate _ settled
  | readyRise c => cases h; exact hP.readyRise _ c settled
  | readyFall c => cases h; exact hP.readyFall _ c settled
  | warmupExpiry c => cases h; exact hP.takeNamed rfl settled
  | spacingExpiry => cases h; exact hP.takeNamed rfl settled
  | grant c =>
    rw [Machine.exec, execGrant] at h
    split at h <;> cases h
    · next d rest hd =>
      split
      · next hdc => exact hdc ▸ hP.takeDue _ isGrant (.grant d) rest hd (by simp) settled
      · exact settled
    · exact settled
  | demand c => cases h; exact hP.takeNamed rfl settled
  | failSafeWake cause => cases h; exact hP.takeNamed rfl settled
  | heartbeatLapse => cases h; exact hP.takeNamed rfl hs

/-- Every step keeps it. -/
theorem step {t : State} (h : step s = .next t) (hs : P s) : P t := by
  rw [Machine.step] at h
  split at h
  · cases h; exact hP.idle hs
  · exact hP.exec _ h (hP.pending s _ hs)

end Invariant

end Sys2Proof.Machine
end

section
/-! PROOF. The laws of the buffers (R51, R136, R151) and of the ring (R150, R153): none of them looks at the slot counter, at
the carriers or at the held lists, so that the part's own events keep them by the plain updates alone. -/

namespace Sys2Proof.Machine

/-! ### What a record handed leaves of the Report Unit -/

section Hand

variable (u : ReportUnit) (r : Record)

@[simp] theorem reportHand_ring : (u.hand r).ring = u.ring := by
  rw [ReportUnit.hand]; split <;> (try split) <;> rfl

@[simp] theorem reportHand_producer : (u.hand r).producer = u.producer := by
  rw [ReportUnit.hand]; split <;> (try split) <;> rfl

@[simp] theorem reportHand_consumer : (u.hand r).consumer = u.consumer := by
  rw [ReportUnit.hand]; split <;> (try split) <;> rfl

@[simp] theorem reportHand_updateOwed : (u.hand r).updateOwed = u.updateOwed := by
  rw [ReportUnit.hand]; split <;> (try split) <;> rfl

@[simp] theorem reportHand_inFlightRecords : (u.hand r).inFlightRecords = u.inFlightRecords := by
  rw [ReportUnit.hand]; split <;> (try split) <;> rfl

@[simp] theorem reportHand_latch : (u.hand r).latch = u.latch := by
  rw [ReportUnit.hand]; split <;> (try split) <;> rfl

/-- A record handed leaves the pending queue, or takes a place that is free. -/
theorem reportHand_pending : (u.hand r).pending = u.pending
    ∨ u.placesTaken < Config.pendingLimit ∧ (u.hand r).pending = u.pending ++ [.ringRecord u.gap r] := by
  rw [ReportUnit.hand]
  split
  · exact .inl rfl
  · split
    · next h =>
      refine .inr ⟨?_, rfl⟩
      rw [ReportUnit.admits.eq_def] at h
      split at h
      · simp only [Bool.and_eq_true, decide_eq_true_eq] at h; exact h.2
      · cases h
    · exact .inl rfl

end Hand

/-! ### Laws that look at the buffers alone -/

/-- A property that does not look at the slot counter, the held lists, the outputs or the commands waiting, with what the two
ports and the resets have to keep besides. -/
structure BufferLaw (P : State → Prop) : Prop extends Stable P where
  clock : ∀ (s : State) (t : SlotTimer), P s → P { s with timer := t }
  monitor : ∀ (s : State) (m : DescriptorMonitor), P s → P { s with monitor := m }
  outside : ∀ (s : State) (o : Outside), P s → P { s with outside := o }
  pending : ∀ (s : State) (l : List Instr), P s → P { s with pending := l }
  transit : ∀ (s : State) (t : TransitPath), t.inFlight = s.transit.inFlight → P s → P { s with transit := t }
  forwarded : ∀ (s : State) (e : InFlight), s.transit.inFlight.length < Config.inFlightLimit → e.disposition = .forwarded →
    P s → P (s.appendEntry e)
  refused' : ∀ (s : State) (e : InFlight), s.transit.inFlight.length < Config.inFlightLimit → e.disposition = .localAnswer →
    P s → P (s.appendEntry e).answerLocals
  merge : ∀ (s : State) (offset : Nat) (data : List Beat), P s →
    P { s with loader := { s.loader with mirror := mergeBeats s.loader.mirror offset data } }
  consumerWord : ∀ (s : State) (a : Address), P s → P (s.consumerWord a)
  grantReport : ∀ s : State, s.transit.inFlight.length < Config.inFlightLimit → P s → P s.grantReport
  takeResponse : ∀ (s : State) (st : ResponseStatus) (beats : List BeatData), P s → P (s.takeResponse st beats)
  abandonUpstream : ∀ s : State, P s → P s.abandonUpstream
  powerOnReset : ∀ (s t : State) (b : BitVec 20) (m : Master), execPowerOnReset b m s = .next t → P t

namespace BufferLaw

variable {P : State → Prop} (hP : BufferLaw P) {s : State}
include hP

theorem handDescriptor (c : Carrier) (m : Master) (a : Address) (b : Beat) (hs : P s) : P (s.handDescriptor c m a b) := by
  rw [State.handDescriptor.eq_def]
  split
  · exact hs
  · exact hP.latch s _ hs
  · exact ite_keeps (hP.addDue _ (hP.monitor s _ hs)) (hP.monitor s _ hs)

theorem heartbeatWord (hs : P s) : P s.heartbeatWord := by
  rw [State.heartbeatWord]
  refine ite_keeps hs ?_
  dsimp only
  split
  · exact hP.heartbeat s _ _ hs
  · exact hP.handRecord _ (hP.heartbeat s _ _ hs)

theorem clockSetWord (a : Address) (hs : P s) : P (s.clockSetWord a) :=
  ite_keeps (hP.clock s _ hs) (ite_keeps (hP.clock s _ hs) (hP.latch s _ hs))

theorem ports : PortsKeep P where
  waiting s _ := hP.transit s _ rfl
  turn s _ := hP.transit s _ rfl
  send s _ := hP.outside s _
  forwarded := hP.forwarded
  refused := hP.refused'
  latchFault s _ := hP.latch s _
  handDescriptor _ c m a b _ _ := hP.handDescriptor c m a b
  merge := hP.merge
  heartbeatWord _ := hP.heartbeatWord
  consumerWord := hP.consumerWord
  clockSetWord _ a := hP.clockSetWord a
  keepAwakeWord _ _ := hP.wakeAll _ _ _
  grantReport := hP.grantReport
  takeResponse := hP.takeResponse

theorem enterHoldover (hs : P s) : P s.enterHoldover := by
  have flushed := hP.monitor s s.flushAll.monitor hs
  exact hP.handRecord _ (hP.clock _ { s.timer with state := .holdover, clean := false, holdover := some 0 } flushed)

theorem lockTimer (hs : P s) : P s.lockTimer :=
  hP.handRecord _ (hP.clock s { s.timer with state := .locked, slot := 0, lossTimer := 0, holdover := none } hs)

theorem slip (hs : P s) : P s.slip := by
  have flushed := hP.monitor s s.flushAll.monitor hs
  exact hP.handRecord _ (hP.clock _ { s.timer with slot := 0, clean := false, lossTimer := 0 } flushed)

theorem takeLocalTick (o : TickOrder) (hs : P s) : P (s.takeLocalTick o) := hP.handTick false o (hP.clock s _ hs)

theorem takeExternalTick (mark : Bool) (o : TickOrder) (hs : P s) : P (s.takeExternalTick mark o) := by
  have advanced : P s.advanceSlot := hP.clock s _ hs
  rw [State.takeExternalTick.eq_def]
  split
  · exact hP.handTick _ o advanced
  · exact hP.handTick _ o (hP.lockTimer hs)
  · exact hP.handTick _ o advanced
  · exact ite_keeps (hP.handTick _ o advanced) (hP.handTick _ o (hP.slip hs))
  · exact hs
  · exact hP.handTick _ o (hP.lockTimer hs)

theorem takeTickLoss (hs : P s) : P s.takeTickLoss := by
  have lost := hP.takeLocalTick usualOrder (hP.takeFailSafe .holdover (hP.enterHoldover hs))
  rw [State.takeTickLoss.eq_def]
  split
  · exact lost
  · exact lost
  · exact hs

theorem takeAnyDue (d : Due) (hs : P s) : P (s.takeDue d) := by
  by_cases hd : d = .tickLoss
  · exact hd ▸ hP.takeTickLoss hs
  · exact hP.takeDue d hd hs

theorem takeSteps (next : List Due → Option (Due × List Due)) (n : Nat) (hs : P s) : P (takeSteps next n s) :=
  takeSteps_keeps (fun t d _ _ ht => hP.takeAnyDue d (hP.due t _ ht)) n hs

theorem takeHoldoverCause (cause : HoldoverOrder) (wait : Bool) (hs : P s) : P (s.takeHoldoverCause cause wait) := by
  have drained : P s.takeDrains := hP.takeSteps _ _ hs
  cases cause with
  | beforeOutstanding => exact hP.takeSteps _ _ (hP.takeFailSafe _ drained)
  | afterOutstanding => exact hP.takeSteps _ _ (hP.addDue _ drained)
  | afterLocalTick => exact hP.addDue _ (hP.takeSteps _ _ drained)

theorem takeReadyRise (c : Carrier) (hs : P s) : P (s.takeReadyRise c) :=
  ite_keeps (hP.endWarmup c _ _ (hP.outside s _ hs)) (hP.outside s _ hs)

theorem takeReadyFall (c : Carrier) (hs : P s) : P (s.takeReadyFall c) :=
  ite_keeps (hP.readyLost c (hP.outside s _ hs)) (hP.outside s _ hs)

theorem passTime (hs : P s) : P s.passTime := by
  rw [State.passTime.eq_def]
  split <;> exact hP.clock s _ hs

/-- Every step keeps such a property. -/
theorem invariant : Invariant P where
  ports := hP.ports
  pending := hP.pending
  settleAtOnce _ := hP.settleAtOnce
  takeDue s _ d _ _ _ hs := hP.takeAnyDue d (hP.due s _ hs)
  takeVerdicts s fresh list _ n _ hs := hP.takeVerdicts fresh list n (hP.due s _ hs)
  dropTickLoss s _ _ := hP.due s _
  takeTickLoss _ _ := hP.takeTickLoss
  externalTick _ mark o := hP.takeExternalTick mark o
  localTick _ o _ := hP.takeLocalTick o
  tickLoss _ cause o _ hs := hP.takeLocalTick o (hP.takeHoldoverCause cause _ (hP.enterHoldover hs))
  readyRise _ c := hP.takeReadyRise c
  readyFall _ c := hP.takeReadyFall c
  fabricReset s o hs := hP.orderedFabricReset o (hP.monitor _ _ (hP.abandonUpstream s hs))
  powerOnReset s t b m h _ := hP.powerOnReset s t b m h
  passTime _ := hP.passTime

end BufferLaw

end Sys2Proof.Machine
end

section
/-! PROOF. The mirror, the in-flight list and the pending queue keep their forms at every step (R51, R136, R151). -/

namespace Sys2Proof.Machine

/-! ### The mirror -/

theorem takeRing_changes (s : State) (p : Policy) : OnlyChanges s (s.takeRing p) [.report] := by
  rw [State.takeRing]
  split
  · exact .refl _ _
  · intro q hq; cases q <;> simp_all [SamePart]

theorem mirrorLaw_of_eq {s t : State} (h : t.loader = s.loader) (hs : MirrorLaw s) : MirrorLaw t := by
  rw [MirrorLaw, h]; exact hs

/-- Only a merge and a power-on reset change the mirror, and both leave it canonical. -/
theorem mirrorLaw_bufferLaw : BufferLaw MirrorLaw where
  due _ _ h := h
  record _ _ _ _ h := h
  retire _ _ _ h := h
  evaluator _ _ h := h
  arbiter _ _ h := h
  timer _ _ _ _ h := h
  heartbeat _ _ _ h := h
  refused _ _ h := h
  hand _ _ h := h
  latch _ _ h := h
  status s w := mirrorLaw_of_eq (rewriteStatus_changes s w).loader
  adopt s p h := mirrorLaw_of_eq (takeRing_changes (s.install p) p).loader h
  take _ _ h := h
  clock _ _ h := h
  monitor _ _ h := h
  outside _ _ h := h
  pending _ _ h := h
  transit _ _ _ h := h
  forwarded _ _ _ _ h := h
  refused' _ _ _ _ h := h
  merge _ _ _ h := wf_mergeBeats h _ _
  consumerWord s a := mirrorLaw_of_eq (consumerWord_changes s a).loader
  grantReport s _ := mirrorLaw_of_eq (grantReport_changes s).loader
  takeResponse s st beats := mirrorLaw_of_eq (takeResponse_changes s st beats).loader
  abandonUpstream _ h := h
  powerOnReset _ _ _ _ h := by cases h; rfl

/-! ### The in-flight list -/

theorem inFlightLaw_of_eq {s t : State} (h : t.transit.inFlight = s.transit.inFlight) (hs : InFlightLaw s) : InFlightLaw t := by
  rw [InFlightLaw, h]; exact hs

/-- What `splitLocals` leaves is no longer than the list, and its head awaits a response. -/
theorem splitLocals_rest (l : List InFlight) :
    (splitLocals l).2.length ≤ l.length ∧ ∀ e ∈ (splitLocals l).2.head?, e.disposition = .forwarded := by
  induction l with
  | nil => simp [splitLocals]
  | cons a l ih =>
    rw [splitLocals]
    split
    · exact ⟨Nat.le_succ_of_le ih.1, ih.2⟩
    · next h => simpa using h

/-- The local answers at the head given, the law holds of a list short enough. -/
theorem answerLocals_inFlightLaw {s : State} (h : s.transit.inFlight.length ≤ Config.inFlightLimit) : InFlightLaw s.answerLocals :=
  ⟨(splitLocals_rest _).1.trans h, (splitLocals_rest _).2⟩

theorem appendEntry_inFlightLaw {s : State} {e : InFlight} (h : s.transit.inFlight.length < Config.inFlightLimit)
    (he : e.disposition = .forwarded) (hs : InFlightLaw s) : InFlightLaw (s.appendEntry e) := by
  refine ⟨by simpa using h, ?_⟩
  cases hl : s.transit.inFlight with
  | nil => simp [hl, he]
  | cons a l => simpa [hl] using hs.2

theorem takeResponse_inFlightLaw (s : State) (st : ResponseStatus) (beats : List BeatData) (hs : InFlightLaw s) :
    InFlightLaw (s.takeResponse st beats) := by
  rw [State.takeResponse]
  split
  · exact hs
  · split
    · exact hs
    · next e rest hl =>
      split
      · exact hs
      · refine answerLocals_inFlightLaw ?_
        have short : rest.length ≤ Config.inFlightLimit := by
          have := hs.1
          rw [hl] at this
          exact Nat.le_of_succ_le this
        rw [State.answerHead]
        split
        · rw [(reportAnswered_changes _ _ _).transit]; exact short
        · split <;> exact short

theorem abandonUpstream_inFlightLaw (s : State) (hs : InFlightLaw s) : InFlightLaw s.abandonUpstream := by
  obtain ⟨hlen, hhead⟩ := hs
  refine ⟨by simpa [State.abandonUpstream] using hlen, ?_⟩
  cases hl : s.transit.inFlight with
  | nil => simp [State.abandonUpstream, hl]
  | cons a l =>
    have ha : a.disposition = .forwarded := hhead a (by simp [hl])
    simp only [State.abandonUpstream, hl, List.map_cons, List.head?_cons, Option.mem_def, Option.some.injEq, forall_eq']
    split <;> exact ha

/-- An entry is appended only while fewer than 32 are in flight, and a local answer leaves as soon as it is at the head. -/
theorem inFlightLaw_bufferLaw : BufferLaw InFlightLaw where
  due _ _ h := h
  record _ _ _ _ h := h
  retire _ _ _ h := h
  evaluator _ _ h := h
  arbiter _ _ h := h
  timer _ _ _ _ h := h
  heartbeat _ _ _ h := h
  refused _ _ h := h
  hand _ _ h := h
  latch _ _ h := h
  status s w := inFlightLaw_of_eq (by rw [(rewriteStatus_changes s w).transit])
  adopt s p h := inFlightLaw_of_eq (by rw [(takeRing_changes (s.install p) p).transit]; rfl) h
  take _ _ h := h
  clock _ _ h := h
  monitor _ _ h := h
  outside _ _ h := h
  pending _ _ h := h
  transit _ _ h := inFlightLaw_of_eq h
  forwarded _ _ free he h := appendEntry_inFlightLaw free he h
  refused' s e free _ _ := answerLocals_inFlightLaw (by simpa using free)
  merge _ _ _ h := h
  consumerWord s a := inFlightLaw_of_eq (by rw [(consumerWord_changes s a).transit])
  grantReport s free h := by
    rw [State.grantReport.eq_def]
    split
    · exact appendEntry_inFlightLaw free rfl h
    · exact h
  takeResponse := takeResponse_inFlightLaw
  abandonUpstream := abandonUpstream_inFlightLaw
  powerOnReset _ _ _ _ h := by cases h; exact ⟨Nat.zero_le _, by simp [TransitPath.reset]⟩

/-! ### The pending queue -/

/-- The law of the pending queue as a property of the Report Unit. -/
def ReportUnit.queueFits (u : ReportUnit) : Prop :=
  u.pending.length ≤ Config.pendingLimit ∧ (u.updateOwed = true → u.pending.length = Config.pendingLimit)

theorem pendingLaw_iff (s : State) : PendingLaw s ↔ s.report.queueFits := Iff.rfl

theorem pendingLaw_of_eq {s t : State} (h : t.report = s.report) (hs : PendingLaw s) : PendingLaw t := by
  rw [PendingLaw, h]; exact hs

/-- Writes that find their places free, an owed update's counted, keep the law. -/
theorem queueFits_append {u v : ReportUnit} {l : List ReportWrite} (hp : v.pending = u.pending ++ l)
    (ho : v.updateOwed = u.updateOwed) (hl : l ≠ []) (hroom : u.placesTaken + l.length ≤ Config.pendingLimit) (hu : u.queueFits) :
    v.queueFits := by
  have hpos : 0 < l.length := List.length_pos_iff.mpr hl
  have hfull := hu.2
  rw [ReportUnit.placesTaken] at hroom
  refine ⟨by rw [hp, List.length_append]; omega, fun owed => ?_⟩
  rw [ho] at owed
  rw [owed] at hroom
  have := hfull owed
  simp only [flagBit, if_true] at hroom
  omega

theorem hand_queueFits (u : ReportUnit) (r : Record) (hu : u.queueFits) : (u.hand r).queueFits := by
  obtain hp | ⟨hroom, hp⟩ := reportHand_pending u r
  · rw [ReportUnit.queueFits, hp, reportHand_updateOwed]; exact hu
  · exact queueFits_append hp (reportHand_updateOwed u r) (by simp) hroom hu

theorem updateDue_queueFits (u : ReportUnit) (hu : u.queueFits) : u.updateDue.queueFits := by
  obtain ⟨hlen, hfull⟩ := hu
  rw [ReportUnit.updateDue]
  split
  · exact ⟨hlen, hfull⟩
  · split
    · next room => exact ⟨by simpa using room, fun owed => absurd (hfull owed) room.ne⟩
    · next full => exact ⟨hlen, fun _ => Nat.le_antisymm hlen (Nat.le_of_not_lt full)⟩

theorem granted_queueFits (u : ReportUnit) (w : ReportWrite) (rest : List ReportWrite) (hp : u.pending = w :: rest)
    (hu : u.queueFits) : (u.granted w rest).queueFits := by
  have hlen : rest.length + 1 ≤ Config.pendingLimit := by have := hu.1; rwa [hp] at this
  refine ⟨?_, nofun⟩
  rw [ReportUnit.granted]
  dsimp only
  split
  · simpa using hlen
  · omega

theorem recordAnswered_queueFits (u : ReportUnit) (capacity : Nat) (st : ResponseStatus) (hu : u.queueFits) :
    (u.recordAnswered capacity st).queueFits := by
  rw [ReportUnit.recordAnswered.eq_def]
  split
  · exact hu
  · exact hu
  · split
    · exact updateDue_queueFits _ hu
    · exact hu

/-- The Report Unit after a response is as before, or as its ring record write's response leaves it. -/
theorem takeResponse_report (s : State) (st : ResponseStatus) (beats : List BeatData) :
    (s.takeResponse st beats).report = s.report
      ∨ ∃ ring, s.report.ring = some ring ∧ (s.takeResponse st beats).report = s.report.recordAnswered ring.capacity st := by
  rw [State.takeResponse]
  split
  · exact .inl rfl
  · split
    · exact .inl rfl
    · split
      · exact .inl rfl
      · rw [(answerLocals_changes _).report, State.answerHead]
        split
        · rw [State.reportAnswered.eq_def]
          split
          · next hring => exact .inr ⟨_, ‹_›, rfl⟩
          · exact .inl rfl
        · split <;> exact .inl rfl

/-- A write joins the pending queue where a place is free, and an owed update takes the place that a grant frees. -/
theorem pendingLaw_bufferLaw : BufferLaw PendingLaw where
  due _ _ h := h
  record _ _ _ _ h := h
  retire _ _ _ h := h
  evaluator _ _ h := h
  arbiter _ _ h := h
  timer _ _ _ _ h := h
  heartbeat _ _ _ h := h
  refused _ _ h := h
  hand _ _ h := hand_queueFits _ _ h
  latch _ _ h := h
  status s w h := by
    rw [State.rewriteStatus]
    split
    · exact h
    · split
      · next room => exact queueFits_append rfl rfl (by simp [State.statusWrites]) room h
      · exact h
  adopt s p h := by
    rw [State.takeRing]
    split
    · exact h
    · exact ⟨Nat.zero_le _, nofun⟩
  take _ _ h := h
  clock _ _ h := h
  monitor _ _ h := h
  outside _ _ h := h
  pending _ _ h := h
  transit _ _ _ h := h
  forwarded _ _ _ _ h := h
  refused' _ _ _ _ h := h
  merge _ _ _ h := h
  consumerWord s a h := by
    rw [State.consumerWord]
    split
    · exact h
    · split <;> exact h
  grantReport s _ h := by
    rw [State.grantReport.eq_def]
    split
    · next hp => exact granted_queueFits _ _ _ hp h
    · exact h
  takeResponse s st beats h := by
    obtain same | ⟨ring, -, answered⟩ := takeResponse_report s st beats
    · exact pendingLaw_of_eq same h
    · rw [pendingLaw_iff, answered]; exact recordAnswered_queueFits _ _ _ h
  abandonUpstream _ h := h
  powerOnReset _ _ _ _ h := by cases h; exact ⟨Nat.zero_le _, nofun⟩

/-- Settles O56: each of the three laws looks at one buffer alone, and every operation on that buffer keeps it. -/
theorem stepKeepsBufferLaws : Obligations.StepKeepsBufferLaws :=
  ⟨fun _ _ hs h => mirrorLaw_bufferLaw.invariant.step h hs,
    fun _ _ hf hp h => ⟨inFlightLaw_bufferLaw.invariant.step h hf, pendingLaw_bufferLaw.invariant.step h hp⟩⟩

end Sys2Proof.Machine
end
section
/-! PROOF. The ring law (R150, R153): the ring is that of the applied policy, and what is written and not consumed fits it. -/

namespace Sys2Proof.Machine

theorem ringLaw_of_eq {s t : State} (ha : t.loader.applied = s.loader.applied) (hr : t.report.ring = s.report.ring)
    (hp : t.report.producer = s.report.producer) (hc : t.report.consumer = s.report.consumer) (hs : RingLaw s) : RingLaw t := by
  rw [RingLaw, ha, ReportUnit.unconsumed, hr, hp, hc]; exact hs

theorem updateDue_indices (u : ReportUnit) : u.updateDue.ring = u.ring ∧ u.updateDue.producer = u.producer
    ∧ u.updateDue.consumer = u.consumer := by
  rw [ReportUnit.updateDue]
  split
  · exact ⟨rfl, rfl, rfl⟩
  · split <;> exact ⟨rfl, rfl, rfl⟩

/-- One record more is within the capacity where those before it left a cell free, the indices being modulo 65536. -/
theorem unconsumed_succ {producer consumer : BitVec 16} {capacity : Nat} (h : (producer - consumer).toNat < capacity) :
    (producer + 1 - consumer).toNat ≤ capacity := by
  have e : producer + 1 - consumer = (producer - consumer) + 1 := by bv_omega
  rw [e, BitVec.toNat_add]
  exact (Nat.mod_le _ _).trans h

/-- The response to a ring record write keeps the ring and the consumer index, and advances the producer index only within the
capacity. -/
theorem recordAnswered_indices (u : ReportUnit) (capacity : Nat) (st : ResponseStatus) :
    (u.recordAnswered capacity st).ring = u.ring
      ∧ (u.unconsumed ≤ capacity → (u.recordAnswered capacity st).unconsumed ≤ capacity) := by
  rw [ReportUnit.recordAnswered.eq_def]
  split
  · exact ⟨rfl, id⟩
  · exact ⟨rfl, id⟩
  · split
    · next h =>
      obtain ⟨hr, hp, hc⟩ := updateDue_indices { u with inFlightRecords := _, producer := u.producer + 1 }
      refine ⟨hr, fun _ => ?_⟩
      rw [ReportUnit.unconsumed, hp, hc]
      exact unconsumed_succ h.2
    · exact ⟨rfl, id⟩

/-- A generation installs its ring with its policy, and the indices move only within the capacity. -/
theorem ringLaw_bufferLaw : BufferLaw RingLaw where
  due _ _ h := h
  record _ _ _ _ h := h
  retire _ _ _ h := h
  evaluator _ _ h := h
  arbiter _ _ h := h
  timer _ _ _ _ h := h
  heartbeat _ _ _ h := h
  refused _ _ h := h
  hand s r h := ringLaw_of_eq (s := s) rfl (reportHand_ring _ _) (reportHand_producer _ _) (reportHand_consumer _ _) h
  latch _ _ h := h
  status s w h := by
    rw [State.rewriteStatus]
    split
    · exact h
    · split <;> exact h
  adopt s p h := by
    rw [State.takeRing]
    split
    · next same => exact ⟨same, h.2⟩
    · refine ⟨rfl, fun ring hring => ?_⟩
      simp [ReportUnit.unconsumed, ReportUnit.reshape]
  take _ _ h := h
  clock _ _ h := h
  monitor _ _ h := h
  outside _ _ h := h
  pending _ _ h := h
  transit _ _ _ h := h
  forwarded _ _ _ _ h := h
  refused' _ _ _ _ h := h
  merge _ _ _ h := h
  consumerWord s a h := by
    rw [State.consumerWord]
    split
    · exact h
    · next p hp =>
      split
      · next fits =>
        refine ⟨h.1, fun ring hring => ?_⟩
        have : ring = ringOf p := by
          have ringEq := h.1
          rw [hp, Option.mem_def.mp hring] at ringEq
          simpa using ringEq
        exact this ▸ fits
      · exact h
  grantReport s _ h := by
    rw [State.grantReport.eq_def]
    split <;> exact h
  takeResponse s st beats h := by
    obtain same | ⟨ring, hring, answered⟩ := takeResponse_report s st beats
    · exact ringLaw_of_eq (by rw [(takeResponse_changes s st beats).loader]) (by rw [same]) (by rw [same]) (by rw [same]) h
    · obtain ⟨kept, within⟩ := recordAnswered_indices s.report ring.capacity st
      refine ⟨?_, fun r hr => ?_⟩
      · rw [(takeResponse_changes s st beats).loader, answered, kept]; exact h.1
      · rw [answered, kept, hring] at hr
        obtain rfl := Option.some.inj hr
        rw [answered]
        exact within (h.2 _ hring)
  abandonUpstream _ h := h
  powerOnReset _ _ _ _ h := by cases h; exact ⟨rfl, nofun⟩

/-- Settles O57. -/
theorem stepKeepsRingLaw : Obligations.StepKeepsRingLaw := fun _ _ hs h => ringLaw_bufferLaw.invariant.step h hs

end Sys2Proof.Machine
end

section
/-! PROOF. The held lists: their order by lead distance (R59, R69), what holding and retirement do with it, and the law of the
held lists, which is kept at a tick by the retirement of the slot begun (R73). -/

namespace Sys2Proof.Machine

/-! ### Lead distances -/

theorem leadDistance_injective {slot t u : Slot} (h : leadDistance t slot = leadDistance u slot) : t = u := by
  have := BitVec.eq_of_toNat_eq h
  bv_omega

theorem leadDistance_succ {slot t : Slot} (h : 0 < leadDistance t slot) :
    leadDistance t (slot + 1) = leadDistance t slot - 1 := by
  unfold leadDistance at *
  bv_omega

theorem leadDistance_eq_one {slot t : Slot} (h : leadDistance t slot = 1) : t = slot + 1 := by
  unfold leadDistance at h
  bv_omega

/-- A list in order: its lead distances rise strictly and lie above the bound and within 4. -/
theorem leadsAscend_iff {slot : Slot} {low : Nat} {l : List Held} :
    leadsAscend slot low l ↔ l.Pairwise (fun g h => leadDistance g.tag slot < leadDistance h.tag slot)
      ∧ ∀ h ∈ l, low < leadDistance h.tag slot ∧ leadDistance h.tag slot ≤ 4 := by
  induction l generalizing low with
  | nil => simp [leadsAscend]
  | cons a l ih =>
    rw [leadsAscend, ih, List.pairwise_cons, List.forall_mem_cons]
    constructor
    · rintro ⟨hlow, hfour, hpair, hall⟩
      exact ⟨⟨fun h hh => (hall h hh).1, hpair⟩, ⟨hlow, hfour⟩, fun h hh => ⟨hlow.trans (hall h hh).1, (hall h hh).2⟩⟩
    · rintro ⟨⟨hfirst, hpair⟩, ⟨hlow, hfour⟩, hall⟩
      exact ⟨hlow, hfour, hpair, fun h hh => ⟨hfirst h hh, (hall h hh).2⟩⟩

theorem leadsAscend_length {slot : Slot} {low : Nat} {l : List Held} (h : leadsAscend slot low l) (hlow : low ≤ 4) :
    l.length + low ≤ 4 := by
  induction l generalizing low with
  | nil => simpa using hlow
  | cons a l ih =>
    obtain ⟨ha, hfour, hl⟩ := h
    have := ih hl hfour
    simp only [List.length_cons]
    omega

theorem leadsAscend_filter {slot : Slot} {low : Nat} {l : List Held} (p : Held → Bool) (h : leadsAscend slot low l) :
    leadsAscend slot low (l.filter p) := by
  rw [leadsAscend_iff] at *
  exact ⟨h.1.filter p, fun g hg => h.2 g (List.mem_of_mem_filter hg)⟩

/-- An order that looks at the tags alone is that of the list with other RBs. -/
theorem leadsAscend_map {slot : Slot} {low : Nat} {l : List Held} {f : Held → Held} (hf : ∀ h, (f h).tag = h.tag)
    (h : leadsAscend slot low l) : leadsAscend slot low (l.map f) := by
  rw [leadsAscend_iff] at *
  refine ⟨List.pairwise_map.mpr (h.1.imp (by simp [hf])), fun g hg => ?_⟩
  obtain ⟨k, hk, rfl⟩ := List.mem_map.mp hg
  rw [hf]
  exact h.2 k hk

/-- With the entry of the slot begun retired, a list in order before the slot began is in order after. -/
theorem leadsAscend_succ {slot : Slot} {l : List Held} (h : leadsAscend slot 0 l) (hr : ∀ g ∈ l, g.tag ≠ slot + 1) :
    leadsAscend (slot + 1) 0 l := by
  rw [leadsAscend_iff] at *
  obtain ⟨hpair, hall⟩ := h
  have later : ∀ g ∈ l, leadDistance g.tag (slot + 1) = leadDistance g.tag slot - 1 ∧ 1 < leadDistance g.tag slot := by
    intro g hg
    have hne : leadDistance g.tag slot ≠ 1 := fun e => hr g hg (leadDistance_eq_one e)
    have hpos := (hall g hg).1
    exact ⟨leadDistance_succ hpos, by omega⟩
  refine ⟨hpair.imp_of_mem fun {g k} hg hk hlt => ?_, fun g hg => ?_⟩
  · have := later g hg; have := later k hk; omega
  · have := later g hg; have := hall g hg; omega

/-! ### Holding a descriptor -/

/-- In a list in order, the entries behind one have other tags. -/
theorem tag_ne_of_behind {slot : Slot} {low : Nat} {g h : Held} {l : List Held} (hl : leadsAscend slot low (g :: l)) (hh : h ∈ l) :
    g.tag ≠ h.tag := fun e =>
  ((List.rel_of_pairwise_cons (leadsAscend_iff.mp hl).1 hh).trans_eq (by rw [e])).false

theorem holdIn_leadsAscend {slot : Slot} {low : Nat} {h : Held} {l : List Held} (hl : leadsAscend slot low l)
    (hlow : low < leadDistance h.tag slot) (hfour : leadDistance h.tag slot ≤ 4) : leadsAscend slot low (holdIn slot h l) := by
  induction l generalizing low with
  | nil => exact ⟨hlow, hfour, trivial⟩
  | cons g l ih =>
    obtain ⟨hg, hg4, hl⟩ := hl
    rw [holdIn]
    split
    · next e => exact ⟨hlow, hfour, e ▸ hl⟩
    · next hne =>
      split
      · next hlt => exact ⟨hlow, hfour, hlt, hg4, hl⟩
      · next hge =>
        have hlt : leadDistance g.tag slot < leadDistance h.tag slot :=
          lt_of_le_of_ne (not_lt.mp hge) (fun e => hne (leadDistance_injective e))
        exact ⟨hg, hg4, ih hl hlt⟩

/-- Holding keeps the entries of other tags and puts its own in the place of its tag's (R69, R70). -/
theorem mem_holdIn {slot : Slot} {low : Nat} {h : Held} {l : List Held} (hl : leadsAscend slot low l) (g : Held) :
    g ∈ holdIn slot h l ↔ g = h ∨ (g ∈ l ∧ g.tag ≠ h.tag) := by
  induction l generalizing low with
  | nil => simp [holdIn]
  | cons a l ih =>
    have behind : ∀ k ∈ l, a.tag ≠ k.tag := fun k hk => tag_ne_of_behind hl hk
    rw [holdIn]
    split
    · next e =>
      rw [e] at behind
      simp only [List.mem_cons]
      refine or_congr_right ⟨fun hg => ⟨.inr hg, (behind g hg).symm⟩, ?_⟩
      rintro ⟨rfl | hg, hne⟩
      · exact absurd e hne
      · exact hg
    · next hne =>
      split
      · next hlt =>
        simp only [List.mem_cons]
        refine or_congr_right ⟨fun hg => ⟨hg, ?_⟩, And.left⟩
        rintro e
        obtain rfl | hg := hg
        · exact hne e
        · have := List.rel_of_pairwise_cons (leadsAscend_iff.mp hl).1 hg
          rw [e] at this
          omega
      · rw [List.mem_cons, ih hl.2.2, List.mem_cons]
        constructor
        · rintro (rfl | rfl | ⟨hg, hgt⟩)
          · exact .inr ⟨.inl rfl, hne⟩
          · exact .inl rfl
          · exact .inr ⟨.inr hg, hgt⟩
        · rintro (rfl | ⟨rfl | hg, hgt⟩)
          · exact .inr (.inl rfl)
          · exact .inl rfl
          · exact .inr (.inr ⟨hg, hgt⟩)

/-- Settles O30. -/
theorem holdingKeepsOrder : Obligations.HoldingKeepsOrder := by
  intro slot h l hl hpos hfour
  have held := holdIn_leadsAscend hl hpos hfour
  exact ⟨held, leadsAscend_length held (Nat.zero_le 4), mem_holdIn hl⟩

/-! ### The law of the held lists, for a slot the lists are in order for -/

/-- The law of the held lists with the order by lead distance from a slot given: the slot counter's, or between the beginning
of a slot and its retirement the slot before. -/
def HeldFrom (slot : Slot) (s : State) : Prop :=
  (∀ c : Carrier, leadsAscend slot 0 (s.held c) ∧ (∀ h ∈ s.held c, h.rb ≤ (s.carrier c).values.rbMax)
    ∧ (s.held c ≠ [] → s.timer.state = .locked ∧ (s.carrier c).values.present = true))
  ∧ ∀ w ∈ s.transit.windows, ∀ h : w.index < 24, (s.carrier ⟨w.index, h⟩).values.present = true

theorem heldLaw_iff (s : State) : HeldLaw s ↔ HeldFrom s.timer.slot s := Iff.rfl

/-- The law holds of a state whose table is as another's and whose lists are empty. -/
theorem HeldFrom.of_empty {slot slot' : Slot} {s t : State} (h : HeldFrom slot s) (hc : t.controller = s.controller)
    (hw : t.transit.windows = s.transit.windows) (he : ∀ c, t.held c = []) : HeldFrom slot' t := by
  refine ⟨fun c => ?_, fun w hm hi => ?_⟩
  · rw [he c]; exact ⟨trivial, by simp, by simp⟩
  · rw [State.carrier, hc]; exact h.2 w (hw ▸ hm) hi

/-- Outside LOCKED nothing is held (R76). -/
theorem HeldFrom.empty {slot : Slot} {s : State} (h : HeldFrom slot s) (hs : s.timer.state ≠ .locked) (c : Carrier) :
    s.held c = [] := by
  by_contra hne
  exact hs ((h.1 c).2.2 hne).1

/-- A list replaced by one in order whose entries are within RBmax, for a carrier that may hold some. -/
theorem HeldFrom.setHeld {slot : Slot} {s : State} {c : Carrier} {l : List Held} (h : HeldFrom slot s)
    (hl : leadsAscend slot 0 l) (hrb : ∀ g ∈ l, g.rb ≤ (s.carrier c).values.rbMax)
    (hmay : l ≠ [] → s.timer.state = .locked ∧ (s.carrier c).values.present = true) : HeldFrom slot (s.setHeld c l) := by
  refine ⟨fun d => ?_, h.2⟩
  rw [held_setHeld]
  split
  · next e => exact e ▸ ⟨hl, hrb, hmay⟩
  · exact h.1 d

theorem HeldFrom.setCarrier {slot : Slot} {s : State} {c : Carrier} {r : CarrierRecord} (hr : r.values = (s.carrier c).values)
    (h : HeldFrom slot s) : HeldFrom slot (s.setCarrier c r) := by
  have hv : ∀ d, ((s.setCarrier c r).carrier d).values = (s.carrier d).values := by
    intro d; rw [carrier_setCarrier]; split
    · next e => rw [hr, e]
    · rfl
  refine ⟨fun d => ?_, fun w hm hi => ?_⟩
  · rw [hv]; exact h.1 d
  · rw [hv]; exact h.2 w hm hi

/-- What a list becomes at an application has tags of the list, and is in order where it was (R72). -/
theorem takeHeld_cases (old new : CarrierValues) (l : List Held) :
    takeHeld old new l = [] ∨ (new.present = true ∧ takeHeld old new l = l.map (fun h => { h with rb := min h.rb new.rbMax })) := by
  rw [takeHeld]
  split
  · exact .inl rfl
  · next h =>
    simp only [Bool.or_eq_true, Bool.not_eq_true', not_or, Bool.not_eq_false] at h
    exact .inr ⟨h.1.1.1, rfl⟩

/-- Of the windows of a generation those of an index below 24 are of present carriers (R46, R57). -/
theorem mem_windowTable_present {base : Nat} {p : Policy} {w : Window} (hw : w ∈ windowTable base p) (hi : w.index < 24) :
    (p.entries.get ⟨w.index, hi⟩).present = true := by
  rw [windowTable, List.mem_append] at hw
  obtain hw | hw := hw
  · obtain ⟨c, hc, rfl⟩ := List.mem_map.mp hw
    exact (List.mem_filter.mp hc).2
  · simp only [List.mem_cons, List.not_mem_nil, or_false] at hw
    obtain rfl | rfl := hw
    · simp [policyWindow] at hi
    · simp [shapeWindow] at hi

theorem HeldFrom.take {slot : Slot} {s : State} (p : Policy) (h : HeldFrom slot s) :
    HeldFrom slot (((s.transitTakes p).monitorTakes p).copyValues p) := by
  have values : ∀ c, ((((s.transitTakes p).monitorTakes p).copyValues p).carrier c).values = p.entries.get c := fun c => by
    rw [State.carrier, State.copyValues, get_tabulate]
  have held : ∀ c, (((s.transitTakes p).monitorTakes p).copyValues p).held c
      = takeHeld (s.carrier c).values (p.entries.get c) (s.held c) := fun c => by
    rw [State.held, State.copyValues, State.monitorTakes, get_tabulate]; rfl
  refine ⟨fun c => ?_, fun w hm hi => ?_⟩
  · rw [values, held]
    obtain e | ⟨hp, e⟩ := takeHeld_cases (s.carrier c).values (p.entries.get c) (s.held c)
    · rw [e]; exact ⟨trivial, by simp, by simp⟩
    · rw [e]
      refine ⟨leadsAscend_map (fun _ => rfl) (h.1 c).1, ?_, fun hne => ⟨?_, hp⟩⟩
      · rintro g hg
        obtain ⟨k, -, rfl⟩ := List.mem_map.mp hg
        exact min_le_right _ _
      · exact ((h.1 c).2.2 (fun e => hne (by rw [e]; rfl))).1
  · rw [values]; exact mem_windowTable_present hm hi

theorem heldFrom_stable (slot : Slot) : Stable (HeldFrom slot) where
  due _ _ h := h
  record _ _ _ hr h := h.setCarrier hr
  retire s c τ h := by
    refine h.setHeld (leadsAscend_filter _ (h.1 c).1) (fun g hg => (h.1 c).2.1 g (List.mem_of_mem_filter hg)) (fun hne => ?_)
    exact (h.1 c).2.2 (fun e => hne (by rw [listAfterRetirement, e]; rfl))
  evaluator _ _ h := h
  arbiter _ _ h := h
  timer s t ht _ h := ⟨fun c => ⟨(h.1 c).1, (h.1 c).2.1, fun hne => ⟨ht.trans ((h.1 c).2.2 hne).1, ((h.1 c).2.2 hne).2⟩⟩, h.2⟩
  heartbeat _ _ _ h := h
  refused _ _ h := h
  hand _ _ h := h
  latch _ _ h := h
  status s w h := by
    rw [State.rewriteStatus]
    split
    · exact h
    · split <;> exact h
  adopt s p h := by
    rw [State.takeRing]
    split <;> exact h
  take _ p h := h.take p

/-- What two properties are kept by keeps both. -/
theorem Stable.and {P Q : State → Prop} (hP : Stable P) (hQ : Stable Q) : Stable (fun s => P s ∧ Q s) where
  due s l h := ⟨hP.due s l h.1, hQ.due s l h.2⟩
  record s c r hr h := ⟨hP.record s c r hr h.1, hQ.record s c r hr h.2⟩
  retire s c τ h := ⟨hP.retire s c τ h.1, hQ.retire s c τ h.2⟩
  evaluator s e h := ⟨hP.evaluator s e h.1, hQ.evaluator s e h.2⟩
  arbiter s a h := ⟨hP.arbiter s a h.1, hQ.arbiter s a h.2⟩
  timer s t hs ht h := ⟨hP.timer s t hs ht h.1, hQ.timer s t hs ht h.2⟩
  heartbeat s b n h := ⟨hP.heartbeat s b n h.1, hQ.heartbeat s b n h.2⟩
  refused s g h := ⟨hP.refused s g h.1, hQ.refused s g h.2⟩
  hand s r h := ⟨hP.hand s r h.1, hQ.hand s r h.2⟩
  latch s l h := ⟨hP.latch s l h.1, hQ.latch s l h.2⟩
  status s w h := ⟨hP.status s w h.1, hQ.status s w h.2⟩
  adopt s p h := ⟨hP.adopt s p h.1, hQ.adopt s p h.2⟩
  take s p h := ⟨hP.take s p h.1, hQ.take s p h.2⟩

/-- The part's own events leave the slot counter and the timer state, but for the ticks and the tick loss themselves. -/
theorem timerStands_stable (slot : Slot) (st : TimerState) : Stable (fun s => s.timer.slot = slot ∧ s.timer.state = st) where
  due _ _ h := h
  record _ _ _ _ h := h
  retire _ _ _ h := h
  evaluator _ _ h := h
  arbiter _ _ h := h
  timer _ _ hst hsl h := ⟨hsl.trans h.1, hst.trans h.2⟩
  heartbeat _ _ _ h := h
  refused _ _ h := h
  hand _ _ h := h
  latch _ _ h := h
  status s w h := by rw [(rewriteStatus_changes s w).timer]; exact h
  adopt s p h := by rw [(takeRing_changes (s.install p) p).timer]; exact h
  take _ _ h := h

/-- A tick handed on leaves the slot counter and the timer state. -/
theorem handTick_timer (s : State) (locked : Bool) (o : TickOrder) :
    (s.handTick locked o).timer.slot = s.timer.slot ∧ (s.handTick locked o).timer.state = s.timer.state :=
  (timerStands_stable s.timer.slot s.timer.state).handTick locked o ⟨rfl, rfl⟩

namespace Stable

/-- In HOLDOVER a tick loss does nothing, so that what the part's own events keep the events before the first local tick keep. -/
theorem takeHoldoverCause {P : State → Prop} (hP : Stable P) (hold : ∀ s, P s → s.timer.state = .holdover) {s : State}
    (cause : HoldoverOrder) (wait : Bool) (hs : P s) : P (s.takeHoldoverCause cause wait) := by
  have any : ∀ (t : State) (d : Due) (rest : List Due), P t → P (State.takeDue { t with due := rest } d) := by
    intro t d rest ht
    have dropped := hP.due t rest ht
    by_cases hd : d = .tickLoss
    · subst hd
      rw [State.takeDue, State.takeTickLoss.eq_def, hold _ dropped]
      exact dropped
    · exact hP.takeDue d hd dropped
  have steps : ∀ (next) (n : Nat) {t : State}, P t → P (takeSteps next n t) := fun next n _ ht =>
    takeSteps_keeps (fun t d rest _ ht => any t d rest ht) n ht
  have drained : P s.takeDrains := steps _ _ hs
  cases cause with
  | beforeOutstanding => exact steps _ _ (hP.takeFailSafe _ drained)
  | afterOutstanding => exact steps _ _ (hP.addDue _ drained)
  | afterLocalTick => exact hP.addDue _ (steps _ _ drained)

end Stable

/-- The law of the held lists with the slot counter and the timer state named. -/
def HeldAt (slot : Slot) (st : TimerState) (s : State) : Prop := HeldFrom slot s ∧ s.timer.slot = slot ∧ s.timer.state = st

theorem heldAt_stable (slot : Slot) (st : TimerState) : Stable (HeldAt slot st) :=
  (heldFrom_stable slot).and (timerStands_stable slot st)

theorem HeldLaw.at {s : State} (h : HeldLaw s) : HeldAt s.timer.slot s.timer.state s := ⟨h, rfl, rfl⟩

theorem HeldLaw.from {s : State} (h : HeldLaw s) : HeldFrom s.timer.slot s := h

theorem HeldAt.law {slot : Slot} {st : TimerState} {s : State} (h : HeldAt slot st s) : HeldLaw s := by
  rw [heldLaw_iff, h.2.1]; exact h.1

/-! ### Ticks -/

/-- No list holds an entry of the slot. -/
def Retired (slot : Slot) (s : State) : Prop := ∀ c : Carrier, ∀ h ∈ s.held c, h.tag ≠ slot

theorem retired_stable (slot : Slot) : Stable (Retired slot) where
  due _ _ h := h
  record _ _ _ _ h := h
  retire s c τ h := by
    intro d g hg
    rw [held_setHeld] at hg
    split at hg
    · next e => exact h c g (List.mem_of_mem_filter hg)
    · exact h d g hg
  evaluator _ _ h := h
  arbiter _ _ h := h
  timer _ _ _ _ h := h
  heartbeat _ _ _ h := h
  refused _ _ h := h
  hand _ _ h := h
  latch _ _ h := h
  status s w h := fun c => (rewriteStatus_changes s w).held c ▸ h c
  adopt s p h := fun c => (takeRing_changes (s.install p) p).held c ▸ h c
  take s p h := by
    intro c g hg
    rw [State.held, State.copyValues, State.monitorTakes, get_tabulate] at hg
    obtain e | ⟨-, e⟩ := takeHeld_cases (s.carrier c).values (p.entries.get c) (s.held c)
    · exact absurd (e ▸ hg) List.not_mem_nil
    · obtain ⟨k, hk, rfl⟩ := List.mem_map.mp (e ▸ hg)
      exact h c k hk

/-- A locked tick taken retires the slot of the slot counter at every carrier (R73). -/
theorem slotsTick_retires {slot : Slot} {s : State} (fresh : List Carrier) (h : HeldFrom slot s) :
    Retired s.timer.slot (s.slotsTick true fresh) := by
  intro c g hg
  rw [slotsTick_held] at hg
  split at hg
  · simpa [listAfterRetirement] using (List.mem_filter.mp hg).2
  · next hn =>
    have : s.held c = [] := by
      by_contra hne
      exact hn ⟨rfl, ((h.1 c).2.2 hne).2⟩
    rw [this] at hg
    exact absurd hg List.not_mem_nil

/-- So does a locked tick handed on, in whatever order the blocks take it. -/
theorem handTick_retires {slot : Slot} {s : State} (o : TickOrder) (h : HeldFrom slot s) :
    Retired s.timer.slot (s.handTick true o) := by
  have law := (heldFrom_stable slot).and (timerStands_stable s.timer.slot s.timer.state)
  have tag := retired_stable s.timer.slot
  have here : ∀ {t : State} (fresh : List Carrier), (HeldFrom slot t ∧ t.timer.slot = s.timer.slot ∧ t.timer.state = s.timer.state) →
      Retired s.timer.slot (t.slotsTick true fresh) := fun fresh ht => ht.2.1 ▸ slotsTick_retires fresh ht.1
  have first : ∀ aw lf, Retired s.timer.slot (s.firstTakings true false aw lf) := fun aw lf =>
    have slots := here [] (law.countsTick true lf ⟨h, rfl, rfl⟩)
    ite_keeps slots (tag.arbiterTick slots)
  rw [State.handTick]
  split
  · refine tag.due _ _ ?_
    cases hl : o.slotsLate with
    | false => exact tag.lateTakings true o (first _ _)
    | true =>
      have taken := law.takeGeneration (law.settleAtOnce (law.firstTakings true true o.arbiterLate o.lapseFirst ⟨h, rfl, rfl⟩))
      have late : ∀ fresh, Retired s.timer.slot
          (if o.slotsLate then State.slotsTick (s.firstTakings true true o.arbiterLate o.lapseFirst).settleAtOnce.takeGeneration true fresh
            else (s.firstTakings true true o.arbiterLate o.lapseFirst).settleAtOnce.takeGeneration) := fun fresh => by
        rw [hl]; exact here fresh taken
      exact ite_keeps (tag.arbiterTick (late _)) (late _)
  · exact tag.due _ _ (first _ _)

/-- A tick handed on with the lists in order for the slot counter keeps the law. -/
theorem handTick_heldLaw {s : State} (locked : Bool) (o : TickOrder) (h : HeldFrom s.timer.slot s) : HeldLaw (s.handTick locked o) := by
  rw [heldLaw_iff, (handTick_timer s locked o).1]
  exact (heldFrom_stable s.timer.slot).handTick locked o h

/-- A slot begun and retired at every carrier: the lists are in order for it (R73). -/
theorem advanceSlot_heldLaw {s : State} (o : TickOrder) (h : HeldLaw s) : HeldLaw (s.advanceSlot.handTick true o) := by
  have before : HeldFrom s.timer.slot s.advanceSlot := h
  have kept := (heldFrom_stable s.timer.slot).handTick true o before
  have retired := handTick_retires o before
  rw [heldLaw_iff, (handTick_timer s.advanceSlot true o).1]
  exact ⟨fun c => ⟨leadsAscend_succ (kept.1 c).1 (retired c), (kept.1 c).2⟩, kept.2⟩

theorem takeLocalTick_heldLaw {s : State} (o : TickOrder) (hs : s.timer.state ≠ .locked) (h : HeldLaw s) :
    HeldLaw (s.takeLocalTick o) :=
  handTick_heldLaw (s := { s with timer := { s.timer with slot := s.timer.slot + 1, holdover := some s.slotLength } }) false o
    (h.from.of_empty rfl rfl (h.from.empty hs))

theorem takeExternalTick_heldLaw {s : State} (mark : Bool) (o : TickOrder) (h : HeldLaw s) : HeldLaw (s.takeExternalTick mark o) := by
  have locks : s.timer.state ≠ .locked → HeldLaw (s.lockTimer.handTick true o) := fun hn =>
    handTick_heldLaw (s := s.lockTimer) true o (h.from.of_empty rfl rfl (h.from.empty hn))
  rw [State.takeExternalTick.eq_def]
  split
  · next hs => exact handTick_heldLaw (s := s.advanceSlot) false o (h.from.of_empty rfl rfl (h.from.empty (by simp [hs])))
  · next hs => exact locks (by simp [hs])
  · exact advanceSlot_heldLaw o h
  · split
    · exact advanceSlot_heldLaw o h
    · exact handTick_heldLaw (s := s.slip) true o (h.from.of_empty rfl rfl fun c => held_flushAll s c)
  · exact h
  · next hs => exact locks (by simp [hs])

theorem enterHoldover_heldAt {s : State} (h : HeldLaw s) : HeldAt s.timer.slot .holdover s.enterHoldover :=
  ⟨h.from.of_empty rfl rfl fun c => held_flushAll s c, rfl, rfl⟩

theorem HeldAt.takeLocalTick {slot : Slot} {s : State} (o : TickOrder) (h : HeldAt slot .holdover s) : HeldLaw (s.takeLocalTick o) :=
  takeLocalTick_heldLaw o (by simp [h.2.2]) h.law

theorem takeTickLoss_heldLaw {s : State} (h : HeldLaw s) : HeldLaw s.takeTickLoss := by
  have lost := ((heldAt_stable s.timer.slot .holdover).takeFailSafe .holdover (enterHoldover_heldAt h)).takeLocalTick usualOrder
  rw [State.takeTickLoss.eq_def]
  split
  · exact lost
  · exact lost
  · exact h

/-! ### A descriptor handed -/

/-- A block of a descriptor window lies in a window of the carrier's index (R46). -/
theorem classify_descriptor {t : TransitPath} {block : Nat} {c : Carrier} (h : t.classify block = .descriptor c) :
    ∃ w ∈ t.windows, w.index = c.val := by
  rw [TransitPath.classify] at h
  split at h
  · next w hw =>
    refine ⟨w, List.mem_of_find?_eq_some hw, ?_⟩
    rw [classOfIndex] at h
    split at h
    · exact congrArg Fin.val (BlockClass.descriptor.inj h)
    · split at h <;> cases h
  · cases h

/-- A first beat that passes the checks comes in LOCKED, with a tag 1 to 4 slots ahead (R62 to R67). -/
theorem examine_held {c : Carrier} {st : TimerState} {slot : Slot} {b : Beat} (h : examine c st slot b = .held) :
    st = .locked ∧ 0 < leadDistance (descTag b.data) slot ∧ leadDistance (descTag b.data) slot ≤ 4 := by
  rw [examine] at h
  iterate 3 (split at h; · cases h)
  split at h
  · cases h
  · next hst =>
    split at h
    · cases h
    · split at h
      · cases h
      · refine ⟨by simpa using hst, ?_, ?_⟩ <;> omega

theorem handDescriptor_heldLaw {s : State} (c : Carrier) (m : Master) (a : Address) (b : Beat) (block : Nat)
    (hc : s.transit.classify block = .descriptor c) (h : HeldLaw s) : HeldLaw (s.handDescriptor c m a b) := by
  have present : (s.carrier c).values.present = true := by
    obtain ⟨w, hw, hi⟩ := classify_descriptor hc
    have hlt : w.index < 24 := hi ▸ c.isLt
    have he : (⟨w.index, hlt⟩ : Carrier) = c := Fin.ext hi
    exact he ▸ h.2 w hw hlt
  rw [State.handDescriptor.eq_def]
  split
  · exact h
  · exact h
  · next hx =>
    obtain ⟨hst, hpos, hfour⟩ := examine_held hx
    have entered : HeldLaw (s.setHeld c (holdIn s.timer.slot (heldEntry (s.carrier c).values.rbMax b.data) (s.held c))) := by
      refine HeldFrom.setHeld h (holdIn_leadsAscend (h.1 c).1 hpos hfour) (fun g hg => ?_) (fun _ => ⟨hst, present⟩)
      obtain rfl | ⟨hg, -⟩ := (mem_holdIn (h.1 c).1 g).mp hg
      · exact min_le_right _ _
      · exact (h.1 c).2.1 g hg
    exact ite_keeps entered entered

/-! ### Every step -/

theorem heldLaw_ports : PortsKeep HeldLaw where
  waiting _ _ h := h
  turn _ _ h := h
  send _ _ h := h
  forwarded _ _ _ _ h := h
  refused _ _ _ _ h := h
  latchFault _ _ h := h
  handDescriptor _ c m a b block hc h := handDescriptor_heldLaw c m a b block hc h
  merge _ _ _ h := h
  heartbeatWord s h := by
    rw [State.heartbeatWord]
    split
    · exact h
    · dsimp only; split <;> exact h
  consumerWord s a h := by
    rw [State.consumerWord]
    split
    · exact h
    · split <;> exact h
  clockSetWord s a h := ite_keeps (P := HeldLaw) h (ite_keeps (P := HeldLaw) h h)
  keepAwakeWord s m h := ((heldAt_stable _ _).wakeAll _ _ _ h.at).law
  grantReport s _ h := by
    rw [State.grantReport.eq_def]
    split <;> exact h
  takeResponse s st beats h := by
    have k := takeResponse_changes s st beats
    rw [State.takeResponse] at *
    split
    · exact h
    · split
      · exact h
      · split
        · exact h
        · rw [State.answerHead]
          split
          · rw [State.reportAnswered.eq_def]; split <;> exact h
          · split <;> exact h

theorem heldLaw_invariant : Invariant HeldLaw where
  ports := heldLaw_ports
  pending _ _ h := h
  settleAtOnce _ h := ((heldAt_stable _ _).settleAtOnce h.at).law
  takeDue _ _ d rest _ hd h := ((heldAt_stable _ _).takeDue d hd ((heldAt_stable _ _).due _ rest h.at)).law
  takeVerdicts _ fresh list rest n _ h :=
    ((heldAt_stable _ _).takeVerdicts fresh list n ((heldAt_stable _ _).due _ rest h.at)).law
  dropTickLoss _ _ _ h := h
  takeTickLoss _ _ h := takeTickLoss_heldLaw h
  externalTick _ mark o h := takeExternalTick_heldLaw mark o h
  localTick _ o hs h := takeLocalTick_heldLaw o (by simp [hs]) h
  tickLoss _ cause o _ h :=
    ((heldAt_stable _ .holdover).takeHoldoverCause (fun _ ht => ht.2.2) cause _ (enterHoldover_heldAt h)).takeLocalTick o
  readyRise s c h := by
    have raised : HeldLaw (s.setReady c true) := h
    exact ite_keeps ((heldAt_stable _ _).endWarmup c _ _ raised.at).law raised
  readyFall s c h := by
    have fallen : HeldLaw (s.setReady c false) := h
    exact ite_keeps ((heldAt_stable _ _).readyLost c fallen.at).law fallen
  fabricReset s o h := by
    have flushed : HeldLaw s.abandonUpstream.flushAll := h.from.of_empty rfl rfl fun c => held_flushAll _ c
    exact ((heldAt_stable _ _).orderedFabricReset o flushed.at).law
  powerOnReset _ _ b m h _ := by
    cases h
    refine ⟨fun c => ?_, fun w hw hi => ?_⟩
    · rw [State.held, DescriptorMonitor.reset, get_tabulate]; exact ⟨trivial, by simp, by simp⟩
    · obtain rfl := List.mem_singleton.mp hw
      simp at hi
  passTime s h := by
    rw [State.passTime.eq_def]
    split <;> exact h

/-- Settles O58: the law is stated for the slot the lists are in order for, which the part's own events leave; a locked tick
begins the next slot and retires it at every carrier. -/
theorem stepKeepsHeldLaw : Obligations.StepKeepsHeldLaw := fun _ _ hs h => heldLaw_invariant.step h hs

end Sys2Proof.Machine
end

section
/-! PROOF. The laws of the carriers, those of sleep, of a holdover and of the wake queue: what they have to be kept by for
every step to keep them. -/

namespace Sys2Proof.Machine

/-! ### The verdicts of a window that is not clean -/

theorem nightEndVerdict_kind {s : State} {c : Carrier} {v : Verdict} (h : v ∈ nightEndVerdict s c) :
    v.kind ≠ .drain ∧ v.kind ≠ .deepen := by
  rw [nightEndVerdict] at h
  split at h <;> simp_all

theorem overloadWake_kind {p : WindowParams} {s : State} {k : Nat} {v : Verdict} (h : v ∈ overloadWake p s k) :
    v.kind ≠ .drain ∧ v.kind ≠ .deepen := by
  rw [overloadWake] at h
  split at h
  · simp_all
  · split at h <;> simp_all

theorem overloadStep_kind {p : WindowParams} {s : State} {v : Verdict} (h : v ∈ overloadStep p s) :
    v.kind ≠ .drain ∧ v.kind ≠ .deepen := by
  obtain ⟨k, -, hv⟩ := List.mem_flatMap.mp h
  rw [overloadSector] at hv
  split at hv
  · obtain hv | hv := List.mem_append.mp hv
    · obtain ⟨c, -, rfl⟩ := List.mem_map.mp hv
      simp
    · exact overloadWake_kind hv
  · cases hv

/-- Outside the night and in a window that is not clean no carrier is drained or deepened (R88, R90). -/
theorem verdictSteps_kind {p : WindowParams} {s : State} {clean : Bool} (h : clean = false ∨ s.nightPredicate = false)
    {v : Verdict} (hv : v ∈ verdictSteps p s clean) : v.kind ≠ .drain ∧ v.kind ≠ .deepen := by
  rw [verdictSteps] at hv
  split at hv
  · next night =>
    obtain rfl := h.resolve_right (by simp [night])
    rw [if_neg Bool.false_ne_true] at hv
    obtain hv | hv := List.mem_append.mp hv
    · exact overloadStep_kind hv
    · obtain ⟨c, -, rfl⟩ := List.mem_map.mp hv
      simp
  · obtain ⟨c, -, hv⟩ := List.mem_flatMap.mp hv
    exact nightEndVerdict_kind hv

/-! ### The operations on the carriers -/

/-- What a law of the carriers has to be kept by for the wake causes to keep it. -/
structure CarrierWakes (P : State → Prop) : Prop where
  queueCarrier : ∀ (s : State) (c : Carrier) (k : Cause) (q : WakeClass), (s.carrier c).state = .deep → P s →
    P (s.queueCarrier c k q)
  raiseClass : ∀ (s : State) (c : Carrier) (k : Cause) (q : WakeClass), P s → P (s.raiseClass c k q)
  toOn : ∀ (s : State) (c : Carrier) (k : Cause), (s.carrier c).state = .draining ∨ (s.carrier c).state = .light → P s →
    P (s.transition c .on k none)

namespace CarrierWakes

variable {P : State → Prop} (hP : CarrierWakes P) {s : State}
include hP

theorem wake (c : Carrier) (k : Cause) (q : WakeClass) (hs : P s) : P (s.wake c k q) := by
  rw [State.wake]
  split
  · next h => exact hP.toOn s c k (.inl h) hs
  · next h => exact hP.toOn s c k (.inr h) hs
  · next h => exact hP.queueCarrier s c k q h hs
  · exact hP.raiseClass s c k q hs
  all_goals exact hs

theorem wakeAll (which : State → Carrier → Bool) (k : Cause) (q : WakeClass) (hs : P s) : P (s.wakeAll which k q) :=
  foldl_keeps (fun _ c ht => ite_keeps (hP.wake c k q ht) ht) carriers hs

theorem takeFailSafe (f : FailSafe) (hs : P s) : P (s.takeFailSafe f) := hP.wakeAll _ _ _ hs

theorem takeDemand (c : Carrier) (u : Bool) (hs : P s) : P (s.takeDemand c u) := by
  rw [State.takeDemand]
  split
  · next h => exact hP.queueCarrier s c _ _ h hs
  · exact hP.raiseClass s c _ _ hs
  all_goals exact hs

end CarrierWakes

/-- What a law of the carriers has to be kept by. `D` says in which timer states it lets a DRAIN come. The first group are plain
updates, the second the operations at a carrier in the states they are made from. -/
structure CarrierOps (D : TimerState → Prop) (P : State → Prop) : Prop extends CarrierWakes P where
  locked : D .locked
  neutral : ∀ s t : State, t.controller = s.controller → t.arbiter = s.arbiter → t.due = s.due → t.timer.state = s.timer.state →
    P s → P t
  leaves : ∀ (s : State) (t : SlotTimer), t.state ≠ .holdover → P s → P { s with timer := t }
  record : ∀ (s : State) (c : Carrier) (r : CarrierRecord), r.state = (s.carrier c).state → r.values = (s.carrier c).values →
    r.queuedClass = (s.carrier c).queuedClass → P s → P (s.setCarrier c r)
  spacing : ∀ (s : State) (n : Nat), P s → P { s with arbiter := { s.arbiter with spacing := n } }
  events : ∀ (s : State) (l : List Due), grantsOutstanding l = grantsOutstanding s.due →
    (∀ d ∈ l, d.mayDrain = true → d ∈ s.due ∨ D s.timer.state) → (.failSafe .holdover ∈ s.due → .failSafe .holdover ∈ l) →
    P s → P { s with due := l }
  drains : ∀ (s : State) (d : Due), P s → d ∈ s.due → d.mayDrain = true → D s.timer.state
  attempt : ∀ s : State, P s → P s.attempt
  toLight : ∀ (s : State) (c : Carrier) (k : Cause), (s.carrier c).state = .draining → P s → P (s.transition c .light k none)
  toDraining : ∀ (s : State) (c : Carrier) (k : Cause), D s.timer.state → (s.carrier c).state = .on → s.maySleep c = true → P s →
    P (s.transition c .draining k none)
  toDeep : ∀ (s : State) (c : Carrier) (k : Cause), (s.carrier c).state = .light → s.maySleep c = true → P s →
    P (s.transition c .deep k none)
  endWarmup : ∀ (s : State) (c : Carrier) (st : CarrierState) (k : Cause), (s.carrier c).state = .warming →
    st = .on ∨ st = .faulted → P s → P (s.endWarmup c st k)
  readyLost : ∀ (s : State) (c : Carrier), (s.carrier c).state.serving = true → P s → P (s.readyLost c)
  takeGrant : ∀ (s : State) (which : Due → Bool) (c : Carrier) (rest : List Due), firstDue which s.due = some (.grant c, rest) →
    P s → P (State.takeGrant { s with due := rest } c)

@[simp] theorem grantsOutstanding_append (l m : List Due) : grantsOutstanding (l ++ m) = grantsOutstanding l ++ grantsOutstanding m :=
  List.filterMap_append

theorem mem_grantsOutstanding {l : List Due} {c : Carrier} : c ∈ grantsOutstanding l ↔ .grant c ∈ l := by
  rw [grantsOutstanding, List.mem_filterMap]
  constructor
  · rintro ⟨d, hd, h⟩
    split at h
    · obtain rfl := Option.some.inj h; exact hd
    · cases h
  · exact fun h => ⟨_, h, rfl⟩

/-- Events of which none is a grant leave no grant outstanding. -/
theorem grantsOutstanding_eq_nil {l : List Due} (h : ∀ d ∈ l, isGrant d = false) : grantsOutstanding l = [] := by
  rw [List.eq_nil_iff_forall_not_mem]
  intro c hc
  simpa [isGrant] using h _ (mem_grantsOutstanding.mp hc)

/-- Leaving out events that are no grants leaves the grants outstanding. -/
theorem grantsOutstanding_filter {l : List Due} {p : Due → Bool} (h : ∀ c, p (.grant c) = true) :
    grantsOutstanding (l.filter p) = grantsOutstanding l := by
  induction l with
  | nil => rfl
  | cons d l ih =>
    rw [List.filter_cons]
    split
    · simp only [grantsOutstanding, List.filterMap_cons] at ih ⊢
      rw [ih]
    · next hd =>
      have : isGrant d = false := by cases d <;> simp_all [isGrant]
      rw [ih]
      cases d <;> simp_all [grantsOutstanding, isGrant]

/-- An event that is no grant taken leaves the grants outstanding. -/
theorem grantsOutstanding_rest {which : Due → Bool} {l : List Due} {d : Due} {rest : List Due}
    (h : firstDue which l = some (d, rest)) (hd : isGrant d = false) : grantsOutstanding rest = grantsOutstanding l := by
  obtain ⟨-, before, after, rfl, rfl, -⟩ := firstDue_eq_some h
  have : grantsOutstanding (d :: after) = grantsOutstanding after := by
    cases d <;> simp_all [grantsOutstanding, isGrant]
  simp [this]

theorem firstDue_sublist {which : Due → Bool} {l : List Due} {d : Due} {rest : List Due}
    (h : firstDue which l = some (d, rest)) : rest.Sublist l := by
  obtain ⟨-, before, after, rfl, rfl, -⟩ := firstDue_eq_some h
  exact List.Sublist.append_left (List.sublist_cons_self d after) before

theorem firstDue_keeps {which : Due → Bool} {l : List Due} {d e : Due} {rest : List Due}
    (h : firstDue which l = some (d, rest)) (he : e ∈ l) (hne : e ≠ d) : e ∈ rest := by
  have := (firstDue_perm h).symm.subset he
  exact (List.mem_cons.mp this).resolve_left hne

/-- The events of a tick at a carrier are no grants and bring no DRAIN. -/
theorem carrierDue_harmless {g : Globals} {c : Carrier} {r r' : CarrierRecord} {slot : Option SlotUse} {d : Due}
    (h : d ∈ carrierDue g c r r' slot) : isGrant d = false ∧ d.mayDrain = false := by
  rw [carrierDue.eq_def] at h
  split at h
  · rw [drainDue.eq_def] at h
    repeat' split at h
    all_goals simp_all [isGrant, Due.mayDrain]
  · split at h <;> simp_all [isGrant, Due.mayDrain]
  · rw [noticeDue] at h
    repeat' split at h
    all_goals simp_all [isGrant, Due.mayDrain]
  · split at h <;> simp_all [isGrant, Due.mayDrain]
  all_goals cases h

/-- An event that is no grant left out, the grants outstanding stay. -/
theorem grantsOutstanding_erase {l : List Due} {d : Due} (hd : isGrant d = false) :
    grantsOutstanding (l.erase d) = grantsOutstanding l := by
  induction l with
  | nil => rfl
  | cons e l ih =>
    rw [List.erase_cons]
    split
    · next he =>
      obtain rfl := by simpa using he
      cases e <;> simp_all [grantsOutstanding, isGrant]
    · simp only [grantsOutstanding, List.filterMap_cons] at ih ⊢
      rw [ih]

theorem tick_queuedClass (r : CarrierRecord) (u : Option SlotUse) : (r.tick u).queuedClass = r.queuedClass := by
  unfold CarrierRecord.tick
  split <;> rfl

namespace CarrierOps

variable {D : TimerState → Prop} {P : State → Prop} (hP : CarrierOps D P) {s : State}
include hP

/-- An operation whose frame leaves the carriers, the arbiter, the Slot Timer and the events keeps the law. -/
theorem frame {t : State} {l : List Part} (h : OnlyChanges s t l)
    (hl : Part.controller ∉ l ∧ Part.arbiter ∉ l ∧ Part.due ∉ l ∧ Part.timer ∉ l := by decide) (hs : P s) : P t :=
  hP.neutral s t (h .controller hl.1) (h .arbiter hl.2.1) (h .due hl.2.2.1) (by rw [h.timer hl.2.2.2]) hs

theorem handRecord (b : RecordBody) (hs : P s) : P (s.hand b) := hP.frame (hand_changes s b) (by decide) hs

/-- Events handed on that are no grants and of which those that may bring a DRAIN come where one may. -/
theorem addEvents (l : List Due) (hl : ∀ d ∈ l, isGrant d = false ∧ (d.mayDrain = true → D s.timer.state)) (hs : P s) :
    P { s with due := s.due ++ l } := by
  refine hP.events s _ ?_ (fun d hd hm => ?_) (fun h => List.mem_append_left _ h) hs
  · rw [grantsOutstanding_append, grantsOutstanding_eq_nil (fun d hd => (hl d hd).1), List.append_nil]
  · exact (List.mem_append.mp hd).imp_right fun hd => (hl d hd).2 hm

/-- One event handed on that is no grant. -/
theorem handOn (d : Due) (hg : isGrant d = false) (hm : d.mayDrain = true → D s.timer.state) (hs : P s) : P (s.addDue d) :=
  hP.addEvents [d] (by simpa [hg] using hm) hs

/-- One event handed on that is no grant and brings no DRAIN. -/
theorem addDue (d : Due) (hd : isGrant d = false ∧ d.mayDrain = false := by exact ⟨rfl, rfl⟩) (hs : P s) : P (s.addDue d) :=
  hP.handOn d hd.1 (by simp [hd.2]) hs

/-- An event taken that is no grant and not the HOLDOVER cause. -/
theorem drop {which : Due → Bool} {d : Due} {rest : List Due} (h : firstDue which s.due = some (d, rest))
    (hg : isGrant d = false) (hh : d ≠ .failSafe .holdover) (hs : P s) : P { s with due := rest } :=
  hP.events s rest (grantsOutstanding_rest h hg) (fun _ he _ => .inl (firstDue_rest h he))
    (fun hm => firstDue_keeps h hm hh.symm) hs

/-! ### The events of the carriers, the arbiter and the heartbeat -/

theorem takeWarmupExpiry (c : Carrier) (hs : P s) : P (s.takeWarmupExpiry c) := by
  rw [State.takeWarmupExpiry]
  split
  · next h => exact ite_keeps (hP.endWarmup s c _ _ h (.inr rfl) hs) (hP.endWarmup s c _ _ h (.inl rfl) hs)
  all_goals exact hs

theorem takeDrainConfirmed (c : Carrier) (b : Bool) (hs : P s) : P (s.takeDrainConfirmed c b) := by
  rw [State.takeDrainConfirmed]
  split
  · next h => exact hP.record _ c _ rfl rfl rfl (hP.toLight s c _ h hs)
  all_goals exact hs

theorem takeDrainDeadline (c : Carrier) (hs : P s) : P (s.takeDrainDeadline c) := by
  rw [State.takeDrainDeadline]
  split
  · next h => exact hP.record _ c _ rfl rfl rfl (hP.toOn s c _ (.inl h) hs)
  all_goals exact hs

theorem takeBeaconStarved (c : Carrier) (hs : P s) : P (s.takeBeaconStarved c) := by
  rw [State.takeBeaconStarved]
  split
  · next h => exact hP.toOn s c _ (.inr h) hs
  all_goals exact hs

theorem takeReadyNotice (c : Carrier) (hs : P s) : P (s.takeReadyNotice c) := ite_keeps (hP.attempt s hs) hs

theorem takeHeartbeatLapse (hs : P s) : P s.takeHeartbeatLapse := by
  have lapsed : P s.lapseHeartbeat := hP.neutral s _ rfl rfl rfl rfl hs
  exact hP.addDue _ ⟨rfl, rfl⟩ lapsed

theorem takeClockSecond (hs : P s) : P s.takeClockSecond := hP.neutral s _ rfl rfl rfl rfl hs

theorem takeAtOnce (d : Due) (hs : P s) : P (s.takeAtOnce d) := by
  cases d with
  | clockSecond => exact hP.takeClockSecond hs
  | drainConfirmed c b => exact hP.takeDrainConfirmed c b hs
  | drainDeadline c => exact hP.takeDrainDeadline c hs
  | beaconStarved c => exact hP.takeBeaconStarved c hs
  | heartbeatLapse => exact hP.takeHeartbeatLapse hs
  | _ => exact hs

theorem settleAtOnce (hs : P s) : P s.settleAtOnce := by
  refine foldl_keeps (fun _ d ht => hP.takeAtOnce d ht) _ ?_
  exact hP.events s _ (grantsOutstanding_filter fun _ => rfl) (fun _ hd _ => .inl (List.mem_filter.mp hd).1)
    (fun h => List.mem_filter.mpr ⟨h, rfl⟩) hs

/-! ### The window's end -/

theorem runProcedure (w : Word32) (clean : Bool) (hc : clean = true → D s.timer.state) (hs : P s) : P (s.runProcedure w clean) := by
  rw [State.runProcedure]
  split
  · exact hs
  · next p _ =>
    have measured := measureAll_changes s p
    generalize measureAll p s = m at measured
    have hm : P m := hP.frame measured (by decide) hs
    dsimp only
    refine hP.handOn _ rfl (fun hdrain => ?_) ?_
    rotate_left
    · exact hP.neutral m _ rfl rfl rfl rfl hm
    obtain ⟨v, hv, hk⟩ := List.any_eq_true.mp hdrain
    have hclean : clean = true := by
      by_contra hn
      exact (verdictSteps_kind (.inl (by simpa using hn)) hv).1 (by simpa using hk)
    exact measured.timer ▸ hc hclean

theorem takeBoundary (w : Word32) (clean : Bool) (hc : clean = true → D s.timer.state) (hs : P s) : P (s.takeBoundary w clean) := by
  have reported := reportLatchedFault_changes s w
  exact hP.frame (rewriteStatus_changes _ w) (by decide)
    (hP.runProcedure w clean (reported.timer ▸ hc) (hP.frame reported (by decide) hs))

theorem applyVerdict (v : Verdict) (hv : v.kind = .drain → D s.timer.state) (hs : P s) : P (s.applyVerdict v) := by
  rw [State.applyVerdict]
  split
  · next hk hst =>
    split
    · next hm => exact hP.toDraining s _ _ (hv hk) hst hm hs
    · exact hs
  · next hst =>
    split
    · next hm => exact hP.toDeep s _ _ hst hm hs
    · exact hs
  · next hst => exact hP.toOn s _ _ (.inl hst) hs
  · next hst => exact hP.toOn s _ _ (.inr hst) hs
  · next hst => exact hP.queueCarrier s _ _ _ hst hs
  · exact hs

theorem applyVerdicts (l : List Verdict) (hl : ∀ v ∈ l, v.kind = .drain → D s.timer.state) (hs : P s) :
    P (l.foldl State.applyVerdict s) := by
  induction l generalizing s with
  | nil => exact hs
  | cons v l ih =>
    refine ih (fun w hw hk => ?_) (hP.applyVerdict v (hl v (by simp)) hs)
    rw [(applyVerdict_changes s v).timer]
    exact hl w (List.mem_cons_of_mem v hw) hk

/-- The verdicts of a list taken, the rest left outstanding at the head. -/
theorem takeVerdicts (fresh : Bool) (list : List Verdict) (n : Nat) (hl : ∀ v ∈ list, v.kind = .drain → D s.timer.state)
    (hs : P s) : P (s.takeVerdicts fresh list n) := by
  have one : ∀ t c, P t → P (decrementBackoff t c) := fun t c ht => by
    rw [decrementBackoff]
    split
    · exact hP.record t c _ rfl rfl rfl ht
    · exact ht
  have changes : OnlyChanges s (if fresh then carriers.foldl decrementBackoff s else s) [.controller] := by
    split
    · exact foldl_onlyChanges _ _ (fun s c => decrementBackoff_changes s c) _ _
    · exact .refl _ _
  have lowered : P (if fresh then carriers.foldl decrementBackoff s else s) := ite_keeps (foldl_keeps one carriers hs) hs
  rw [State.takeVerdicts]
  generalize (if fresh then carriers.foldl decrementBackoff s else s) = u at changes lowered
  have part : ∀ v ∈ list.take n, v.kind = .drain → D u.timer.state := fun v hv hk =>
    changes.timer ▸ hl v (List.mem_of_mem_take hv) hk
  split
  · refine hP.applyVerdicts _ part (hP.events u _ rfl (fun d hd hm => ?_) (List.mem_cons_of_mem _) lowered)
    obtain rfl | hd := List.mem_cons.mp hd
    · obtain ⟨v, hv, hk⟩ := List.any_eq_true.mp hm
      exact .inr (changes.timer ▸ hl v (List.mem_of_mem_drop hv) (by simpa using hk))
    · exact .inl hd
  · exact hP.applyVerdicts _ part lowered

/-! ### Ticks -/

theorem carrierTick (locked : Bool) (fresh : List Carrier) (c : Carrier) (hs : P s) : P (carrierTick locked fresh s c) := by
  have ticked : ∀ (t : State) (slot : Option SlotUse), t.controller = s.controller → P t →
      P { t.setCarrier c ((s.carrier c).tick slot) with
        due := t.due ++ carrierDue t.globals c (s.carrier c) ((s.carrier c).tick slot) slot } := by
    intro t slot hc ht
    have same : t.carrier c = s.carrier c := by rw [State.carrier, hc]; rfl
    refine hP.addEvents (s := t.setCarrier c _) _ (fun d hd => ?_)
      (hP.record t c _ (by rw [same, tick_state]) (by rw [same, tick_values]) (by rw [same, tick_queuedClass]) ht)
    obtain ⟨hg, hm⟩ := carrierDue_harmless hd
    exact ⟨hg, by simp [hm]⟩
  rw [Machine.carrierTick]
  split
  · have retired := hP.neutral s (s.setHeld c (listAfterRetirement (s.held c) s.timer.slot)) rfl rfl rfl rfl hs
    dsimp only
    split
    · exact ticked (s.setHeld c _) _ rfl retired
    · exact ticked ((s.setHeld c _).setFigures c _) _ rfl (hP.neutral (s.setHeld c _) _ rfl rfl rfl rfl retired)
  · exact ticked s none rfl hs

theorem slotsTick (locked : Bool) (fresh : List Carrier) (hs : P s) : P (s.slotsTick locked fresh) :=
  foldl_keeps (fun _ c ht => hP.carrierTick locked fresh c ht) carriers hs

theorem arbiterTick (hs : P s) : P s.arbiterTick :=
  ite_keeps (hP.addDue _ ⟨rfl, rfl⟩ (hP.spacing s _ hs)) (hP.spacing s _ hs)

theorem heartbeatTick (hs : P s) : P s.heartbeatTick := by
  rw [State.heartbeatTick.eq_def]
  split
  · exact hs
  · next n _ =>
    have counted := hP.neutral s { s with loader := { s.loader with heartbeatTimer := some (n + 1) } } rfl rfl rfl rfl hs
    exact ite_keeps (hP.addDue _ ⟨rfl, rfl⟩ counted) counted

theorem clockTick (hs : P s) : P s.clockTick := by
  have counted := hP.neutral s { s with timer := { s.timer with subSecond := s.timer.subSecond + 1 } } rfl rfl rfl rfl hs
  exact ite_keeps (ite_keeps (hP.addDue _ ⟨rfl, rfl⟩ counted) counted) hs

theorem windowTick (locked : Bool) (hs : P s) : P (s.windowTick locked) :=
  ite_keeps hs (ite_keeps (hP.neutral s _ rfl rfl rfl rfl hs) (hP.neutral s _ rfl rfl rfl rfl hs))

theorem takeEarlyLapse (hs : P s) : P s.takeEarlyLapse := by
  refine ite_keeps ?_ hs
  have settled := hP.settleAtOnce hs
  generalize s.settleAtOnce = t at settled
  refine hP.takeFailSafe _ (hP.events t _ ?_ (fun d hd _ => .inl (List.mem_of_mem_erase hd)) (fun h => ?_) settled)
  · exact grantsOutstanding_erase rfl
  · exact (List.mem_erase_of_ne (by decide)).mpr h

/-- The counts of a tick at the clock, the window and the heartbeat. -/
theorem countsTick (locked : Bool) (hs : P s) : P (s.clockTick.windowTick locked).heartbeatTick :=
  hP.heartbeatTick (hP.windowTick locked (hP.clockTick hs))

theorem firstTakings (locked sw aw lapseFirst : Bool) (hs : P s) : P (s.firstTakings locked sw aw lapseFirst) := by
  have counted := ite_keeps (q := lapseFirst = true) (hP.takeEarlyLapse (hP.countsTick locked hs)) (hP.countsTick locked hs)
  have slots := ite_keeps (q := sw = true) counted (hP.slotsTick locked [] counted)
  exact ite_keeps slots (hP.arbiterTick slots)

end CarrierOps

/-- What a law of the carriers has to be kept by, with the takings that it sees as a whole. -/
structure CarrierTakes (D : TimerState → Prop) (P : State → Prop) : Prop extends CarrierOps D P where
  takeHoldover : ∀ (s : State) (which : Due → Bool) (rest : List Due),
    firstDue which s.due = some (.failSafe .holdover, rest) → P s → P (State.takeFailSafe { s with due := rest } .holdover)
  takeGeneration : ∀ s : State, P s → P s.takeGeneration

/-- The boundary that a tick hands on is clean only where the tick is locked (R36). -/
theorem boundaryDue_mayDrain {s : State} {locked : Bool} {d : Due} (h : d ∈ s.boundaryDue locked) :
    isGrant d = false ∧ (d.mayDrain = true → locked = true) := by
  rw [State.boundaryDue] at h
  split at h
  · obtain rfl := List.mem_singleton.mp h
    exact ⟨rfl, fun hm => by simp_all [Due.mayDrain]⟩
  · cases h

namespace CarrierTakes

variable {D : TimerState → Prop} {P : State → Prop} (hP : CarrierTakes D P) {s : State}
include hP

/-! ### Ticks -/

theorem lateTakings (locked : Bool) (o : TickOrder) (hs : P s) : P (s.lateTakings locked o) := by
  have taken := hP.takeGeneration _ (hP.settleAtOnce hs)
  have slots := ite_keeps (q := o.slotsLate = true) (hP.slotsTick locked s.absentees taken) taken
  exact ite_keeps (hP.arbiterTick slots) slots

theorem handTick (locked : Bool) (o : TickOrder) (hd : locked = true → D s.timer.state) (hs : P s) : P (s.handTick locked o) := by
  have boundary : ∀ t : State, t.timer.state = s.timer.state → ∀ d ∈ s.boundaryDue locked,
      isGrant d = false ∧ (d.mayDrain = true → D t.timer.state) := fun t ht d hm =>
    ⟨(boundaryDue_mayDrain hm).1, fun hdr => ht ▸ hd ((boundaryDue_mayDrain hm).2 hdr)⟩
  have stands := timerStands_stable s.timer.slot s.timer.state
  have firstTimer : ∀ sw aw, (s.firstTakings locked sw aw o.lapseFirst).timer.state = s.timer.state := fun sw aw =>
    (stands.firstTakings locked sw aw _ ⟨rfl, rfl⟩).2
  have lateTimer : ((s.firstTakings locked o.slotsLate o.arbiterLate o.lapseFirst).lateTakings locked o).timer.state
      = s.timer.state := (stands.lateTakings locked o (stands.firstTakings locked _ _ _ ⟨rfl, rfl⟩)).2
  rw [State.handTick]
  split
  · refine hP.addEvents _ (boundary _ ?_) (hP.lateTakings locked o (hP.firstTakings locked _ _ _ hs))
    exact lateTimer
  · refine hP.addEvents (s := { s.firstTakings locked false false o.lapseFirst with due := _ }) _ ?_
      (hP.addEvents _ (boundary _ ?_) (hP.firstTakings locked _ _ _ hs))
    · intro d hm
      split at hm
      · obtain rfl := List.mem_singleton.mp hm
        exact ⟨rfl, nofun⟩
      · cases hm
    · exact firstTimer _ _

theorem takeLocalTick (o : TickOrder) (hs : P s) : P (s.takeLocalTick o) := by
  have counted := hP.neutral s { s with timer := { s.timer with slot := s.timer.slot + 1, holdover := some s.slotLength } }
    rfl rfl rfl rfl hs
  exact hP.handTick false o nofun counted

theorem lockTimer (hs : P s) : P s.lockTimer :=
  hP.handRecord _ (hP.leaves s { s.timer with state := .locked, slot := 0, lossTimer := 0, holdover := none } (by simp) hs)

theorem takeExternalTick (mark : Bool) (o : TickOrder) (hs : P s) : P (s.takeExternalTick mark o) := by
  have advanced : P s.advanceSlot := hP.neutral s _ rfl rfl rfl rfl hs
  have slipped : P s.slip := hP.handRecord _
    (hP.neutral s { s.flushAll with timer := { s.timer with slot := 0, clean := false, lossTimer := 0 } } rfl rfl rfl rfl hs)
  rw [State.takeExternalTick.eq_def]
  split
  · exact hP.handTick false o nofun advanced
  · exact hP.handTick true o (fun _ => hP.locked) (hP.lockTimer hs)
  · next h => exact hP.handTick true o (fun _ => h.symm ▸ hP.locked) advanced
  · next h =>
    exact ite_keeps (hP.handTick true o (fun _ => h.symm ▸ hP.locked) advanced)
      (hP.handTick true o (fun _ => h.symm ▸ hP.locked) slipped)
  · exact hs
  · exact hP.handTick true o (fun _ => hP.locked) (hP.lockTimer hs)

/-! ### Outstanding events -/

theorem takeDue {which : Due → Bool} {d : Due} {rest : List Due} (h : firstDue which s.due = some (d, rest)) (hd : d ≠ .tickLoss)
    (hs : P s) : P (State.takeDue { s with due := rest } d) := by
  have mem : d ∈ s.due := (firstDue_perm h).subset (List.mem_cons_self)
  have dropped : isGrant d = false → d ≠ .failSafe .holdover → P { s with due := rest } := fun hg hh => hP.drop h hg hh hs
  cases d with
  | clockSecond => exact hP.takeClockSecond (dropped rfl (by simp))
  | drainConfirmed c b => exact hP.takeDrainConfirmed c b (dropped rfl (by simp))
  | drainDeadline c => exact hP.takeDrainDeadline c (dropped rfl (by simp))
  | beaconStarved c => exact hP.takeBeaconStarved c (dropped rfl (by simp))
  | heartbeatLapse => exact hP.takeHeartbeatLapse (dropped rfl (by simp))
  | readyNotice c => exact hP.takeReadyNotice c (dropped rfl (by simp))
  | warmupExpiry c => exact hP.takeWarmupExpiry c (dropped rfl (by simp))
  | spacingExpiry => exact hP.attempt _ (dropped rfl (by simp))
  | boundary w clean locked => exact hP.takeBoundary w clean (fun hc => hP.drains s _ hs mem hc) (dropped rfl (by simp))
  | generation => exact hP.takeGeneration _ (dropped rfl (by simp))
  | verdicts fresh l =>
    refine hP.takeVerdicts fresh l _ (fun v hv hk => hP.drains s _ hs mem ?_) (dropped rfl (by simp))
    exact List.any_eq_true.mpr ⟨v, hv, by simp [hk]⟩
  | grant c => exact hP.takeGrant s which c rest h hs
  | demand c u => exact hP.takeDemand c u (dropped rfl (by simp))
  | failSafe f =>
    by_cases hf : f = .holdover
    · subst hf; exact hP.takeHoldover s which rest h hs
    · exact hP.takeFailSafe f (dropped rfl (by simpa using hf))
  | tickLoss => exact absurd rfl hd

end CarrierTakes

/-- What a law of the carriers has to be kept by for every step to keep it. -/
structure CarrierLaw (D : TimerState → Prop) (P : State → Prop) : Prop extends CarrierTakes D P where
  enterHoldover : ∀ s : State, (∀ d ∈ s.due, d.mayDrain = false) → P s → P (s.enterHoldover.takeFailSafe .holdover)
  tickLoss : ∀ (s : State) (cause : HoldoverOrder) (wait : Bool), s.timer.state ≠ .holdover → P s →
    P (s.enterHoldover.takeHoldoverCause cause wait)
  powerOnReset : ∀ (s t : State) (b : BitVec 20) (m : Master), execPowerOnReset b m s = .next t → P s → P t

/-- An event that may wait brings no DRAIN. -/
theorem mayDrain_of_mayWait {d : Due} (h : d.mayWait = true ∨ d = .tickLoss) : d.mayDrain = false := by
  cases d <;> simp_all [Due.mayWait, Due.mayDrain]

namespace CarrierLaw

variable {D : TimerState → Prop} {P : State → Prop} (hP : CarrierLaw D P) {s : State}
include hP

/-! ### The ports and the ready lines -/

theorem handDescriptor (c : Carrier) (m : Master) (a : Address) (b : Beat) (hs : P s) : P (s.handDescriptor c m a b) := by
  rw [State.handDescriptor.eq_def]
  split
  · exact hs
  · exact hP.frame (latchFault_changes s _) (by decide) hs
  · have held := hP.neutral s
      (s.setHeld c (holdIn s.timer.slot (heldEntry (s.carrier c).values.rbMax b.data) (s.held c))) rfl rfl rfl rfl hs
    exact ite_keeps (hP.addDue _ ⟨rfl, rfl⟩ held) held

theorem clockSetWord (a : Address) (hs : P s) : P (s.clockSetWord a) := by
  have kept : (s.clockSetWord a).timer.state = s.timer.state := by
    rw [State.clockSetWord]
    dsimp only
    split
    · rfl
    · split <;> rfl
  have changes := clockSetWord_changes s a
  exact hP.neutral s _ changes.controller changes.arbiter changes.due kept hs

theorem ports : PortsKeep P where
  waiting s _ := hP.neutral s _ rfl rfl rfl rfl
  turn s _ := hP.neutral s _ rfl rfl rfl rfl
  send s _ := hP.neutral s _ rfl rfl rfl rfl
  forwarded s _ _ _ := hP.neutral s _ rfl rfl rfl rfl
  refused s _ _ _ := hP.neutral s _ rfl rfl rfl rfl
  latchFault s _ := hP.neutral s _ rfl rfl rfl rfl
  handDescriptor _ c m a b _ _ := hP.handDescriptor c m a b
  merge s _ _ := hP.neutral s _ rfl rfl rfl rfl
  heartbeatWord s := hP.frame (heartbeatWord_changes s)
  consumerWord s a := hP.frame (consumerWord_changes s a)
  clockSetWord _ a := hP.clockSetWord a
  keepAwakeWord _ _ := hP.wakeAll _ _ _
  grantReport s _ := hP.frame (grantReport_changes s)
  takeResponse s st beats := hP.frame (takeResponse_changes s st beats)

theorem takeReadyRise (c : Carrier) (hs : P s) : P (s.takeReadyRise c) := by
  have risen : P (s.setReady c true) := hP.neutral s _ rfl rfl rfl rfl hs
  rw [State.takeReadyRise]
  split
  · next h => exact hP.endWarmup _ c _ _ (by simp at h; exact h.2) (.inl rfl) risen
  · exact risen

theorem takeReadyFall (c : Carrier) (hs : P s) : P (s.takeReadyFall c) := by
  have fallen : P (s.setReady c false) := hP.neutral s _ rfl rfl rfl rfl hs
  rw [State.takeReadyFall]
  split
  · next h => exact hP.readyLost _ c (by simp at h; exact h.2) fallen
  · exact fallen

theorem loaderFabricReset (hs : P s) : P s.loaderFabricReset := ite_keeps (hP.takeHeartbeatLapse hs) hs

theorem reportFabricReset (hs : P s) : P s.reportFabricReset :=
  hP.handRecord _ (hP.neutral s { s with report := { s.report with latch := none } } rfl rfl rfl rfl hs)

theorem orderedFabricReset (o : ResetOrder) (hs : P s) : P (s.orderedFabricReset o) := by
  cases o with
  | controllerLoaderReport => exact hP.reportFabricReset (hP.loaderFabricReset (hP.takeFailSafe _ hs))
  | controllerReportLoader => exact hP.loaderFabricReset (hP.reportFabricReset (hP.takeFailSafe _ hs))
  | loaderControllerReport => exact hP.reportFabricReset (hP.takeFailSafe _ (hP.loaderFabricReset hs))
  | reportControllerLoader => exact hP.loaderFabricReset (hP.takeFailSafe _ (hP.reportFabricReset hs))
  | loaderReportController => exact hP.addDue _ ⟨rfl, rfl⟩ (hP.reportFabricReset (hP.loaderFabricReset hs))
  | reportLoaderController => exact hP.addDue _ ⟨rfl, rfl⟩ (hP.loaderFabricReset (hP.reportFabricReset hs))

/-! ### Every step -/

theorem takeTickLoss (hd : ∀ d ∈ s.due, d.mayWait = true ∨ d = .tickLoss) (hs : P s) : P s.takeTickLoss := by
  have lost := hP.takeLocalTick usualOrder (hP.enterHoldover s (fun d h => mayDrain_of_mayWait (hd d h)) hs)
  rw [State.takeTickLoss.eq_def]
  split
  · exact lost
  · exact lost
  · exact hs

theorem passTime (hs : P s) : P s.passTime := by
  rw [State.passTime.eq_def]
  split <;> exact hP.neutral s _ rfl rfl rfl rfl hs

/-- Every step keeps a law of the carriers. -/
theorem invariant : Invariant P where
  ports := hP.ports
  pending s _ := hP.neutral s _ rfl rfl rfl rfl
  settleAtOnce _ := hP.settleAtOnce
  takeDue _ _ _ _ h hd := hP.takeDue h hd
  takeVerdicts s fresh list rest n h hs := by
    refine hP.takeVerdicts fresh list n (fun v hv hk => hP.drains s (.verdicts fresh list) hs ?_ ?_) (hP.drop h rfl (by simp) hs)
    · exact (firstDue_perm h).subset List.mem_cons_self
    · exact List.any_eq_true.mpr ⟨v, hv, by simp [hk]⟩
  dropTickLoss _ _ h := hP.drop h rfl (by simp)
  takeTickLoss _ := hP.takeTickLoss
  externalTick _ mark o := hP.takeExternalTick mark o
  localTick _ o _ := hP.takeLocalTick o
  tickLoss s cause o h hs := hP.takeLocalTick o (hP.tickLoss s cause _ h hs)
  readyRise _ c := hP.takeReadyRise c
  readyFall _ c := hP.takeReadyFall c
  fabricReset s o hs := hP.orderedFabricReset o (hP.neutral s _ rfl rfl rfl rfl hs)
  powerOnReset := hP.powerOnReset
  passTime _ := hP.passTime

end CarrierLaw

end Sys2Proof.Machine
end

section
/-! PROOF. What a generation that passes validation leaves of every carrier (R11 to R16, R142). -/

namespace Sys2Proof.Machine

/-! ### What validation and the clamps leave -/

theorem validate_eq_none {s : State} {p : Policy} : validate s p = none ↔ checkMasters p = none ∧ checkSectors p = none
    ∧ checkAnchors p = none ∧ checkShapes p = none ∧ checkOverlaps s.transit.policyBase p = none ∧ checkRing p = none
    ∧ checkBusyCarriers s p = none ∧ checkBusySectors s p = none := by
  simp only [validate, Option.or_eq_none_iff]

/-- The structural values of a busy carrier stay (R142). -/
theorem structuralChange_of_busy {s : State} {p : Policy} (h : validate s p = none) {c : Carrier}
    (hb : (s.carrier c).state.busy = true) : structuralChange (s.carrier c).values (p.entries.get c) = false := by
  obtain ⟨-, -, -, -, -, -, hc, -⟩ := validate_eq_none.mp h
  rw [checkBusyCarriers, Option.map_eq_none_iff, List.find?_eq_none] at hc
  simpa [busyChange, hb] using hc c (mem_carriers c)

@[simp] theorem clampPolicy_entry (p : Policy) (c : Carrier) : (clampPolicy p).entries.get c = clampEntry (p.entries.get c) :=
  get_tabulate _ c

section ClampEntry

variable (v : CarrierValues)

@[simp] theorem clampEntry_present : (clampEntry v).present = v.present := by rw [clampEntry]; split <;> rfl
@[simp] theorem clampEntry_role : (clampEntry v).role = v.role := by rw [clampEntry]; split <;> rfl
@[simp] theorem clampEntry_sector : (clampEntry v).sector = v.sector := by rw [clampEntry]; split <;> rfl
@[simp] theorem clampEntry_sensing : (clampEntry v).sensing = v.sensing := by rw [clampEntry]; split <;> rfl

end ClampEntry

/-- A busy carrier keeps its presence, role, sector and ready sensing in a generation applied (R142). -/
structure SameStructure (v w : CarrierValues) : Prop where
  present : w.present = v.present
  role : w.role = v.role
  sector : w.sector = v.sector
  sensing : w.sensing = v.sensing

theorem sameStructure_of_busy {s : State} {p : Policy} (h : validate s p = none) {c : Carrier}
    (hb : (s.carrier c).state.busy = true) : SameStructure (s.carrier c).values ((clampPolicy p).entries.get c) := by
  have same := structuralChange_of_busy h hb
  simp only [structuralChange, Bool.or_eq_false_iff, bne_eq_false_iff_eq] at same
  constructor <;> simp [same]

/-! ### The carriers -/

/-- The record of a carrier that a generation is applied to, the wakes of a lost anchor left out (R1, R12 to R15). -/
def appliedAlone (s : State) (p : Policy) (c : Carrier) : CarrierRecord :=
  let r := { s.carrier c with values := p.entries.get c }
  match r.state with
  | .absent =>
    if r.values.present then
      if r.values.sensing && !s.readyLevel c then r.enter .queued (some .routine) else r.enter .on none
    else r
  | .on => if !r.values.present then r.enter .absent none else if newlyLost s p c then r.enter .faulted none else r
  | .faulted => if !r.values.present then r.enter .absent none else r.enter .queued (some .routine)
  | .draining | .light | .deep | .queued | .warming => r

/-- A carrier is woken by the loss of an anchor among `done`: a busy one, or one that has been taken before it (R11, R16). -/
def cascaded (s : State) (p : Policy) (done : List Carrier) (c : Carrier) : Bool :=
  done.any (fun a => anchorLost s p a && capacityBeside p a c && ((s.carrier c).state.busy || decide (c < a)))

/-- The record of a carrier once the application has been taken at the carriers `done`. -/
def appliedRecord (s : State) (p : Policy) (done : List Carrier) (c : Carrier) : CarrierRecord :=
  let r := if c ∈ done then appliedAlone s p c else { s.carrier c with values := p.entries.get c }
  if cascaded s p done c then r.woken .urgent else r

/-- The figures of a carrier once the application has been taken at the carriers `done` (R79). -/
def appliedFigures (s : State) (p : Policy) (done : List Carrier) (c : Carrier) : Figures :=
  if c ∈ done ∧ (s.carrier c).state = .absent ∧ (p.entries.get c).present = true then .arriving
  else if c ∈ done ∧ ((s.carrier c).state = .on ∨ (s.carrier c).state = .faulted) ∧ (p.entries.get c).present = false then .zero
  else s.figures c

theorem woken_urgent_idem (r : CarrierRecord) : (r.woken .urgent).woken .urgent = r.woken .urgent := by
  rcases r with ⟨v, st, q, k, a, b, c, d, e, f, g, h⟩
  cases st
  case queued =>
    cases q with
    | none => rfl
    | some old => cases old <;> rfl
  all_goals rfl

/-- A carrier that is not busy is not found by a wake (R20). -/
theorem woken_of_not_busy {r : CarrierRecord} (h : r.state.busy = false) (q : WakeClass) : r.woken q = r := by
  rcases r with ⟨v, st, q, k, a, b, c, d, e, f, g, h⟩
  cases st <;> simp_all [CarrierRecord.woken, CarrierState.busy]

theorem appliedAlone_of_busy {s : State} {p : Policy} {c : Carrier} (h : (s.carrier c).state.busy = true) :
    appliedAlone s p c = { s.carrier c with values := p.entries.get c } := by
  rw [appliedAlone]
  cases hs : (s.carrier c).state <;> simp_all [CarrierState.busy]

theorem cascaded_snoc (s : State) (p : Policy) (done : List Carrier) (a c : Carrier) : cascaded s p (done ++ [a]) c =
    (cascaded s p done c || (anchorLost s p a && capacityBeside p a c && ((s.carrier c).state.busy || decide (c < a)))) := by
  simp [cascaded]

theorem not_capacityBeside_self {s : State} {p : Policy} {a : Carrier} (h : anchorLost s p a = true) :
    capacityBeside p a a = false := by
  simp_all [anchorLost, capacityBeside]

/-- The records at the carriers other than the one taken: woken where it is an anchor lost (R16). -/
theorem appliedRecord_snoc_of_ne {s : State} {p : Policy} {done : List Carrier} {a c : Carrier} (h : c ≠ a) :
    appliedRecord s p (done ++ [a]) c =
      if anchorLost s p a && capacityBeside p a c && ((s.carrier c).state.busy || decide (c < a)) then
        (appliedRecord s p done c).woken .urgent
      else appliedRecord s p done c := by
  simp only [appliedRecord, cascaded_snoc, List.mem_append, List.mem_singleton, h, or_false]
  cases cascaded s p done c
  · simp
  · simp only [Bool.true_or, if_true, woken_urgent_idem, ite_self]

/-- A carrier that is not busy is found as before the application, its values taken, where those before it have been taken. -/
theorem appliedRecord_next {s : State} {p : Policy} {done : List Carrier} {a : Carrier} (hd : ∀ c ∈ done, c < a)
    (hb : (s.carrier a).state.busy = false) :
    appliedRecord s p done a = { s.carrier a with values := p.entries.get a }
      ∧ appliedRecord s p (done ++ [a]) a = appliedAlone s p a := by
  have none : cascaded s p done a = false := by
    simp only [cascaded, hb, Bool.false_or, List.any_eq_false, Bool.and_eq_true, decide_eq_true_eq, not_and]
    exact fun c hc _ => absurd (hd c hc) ∘ fun h => lt_asymm h
  have out : a ∉ done := fun h => absurd (hd a h) (lt_irrefl a)
  constructor
  · simp [appliedRecord, none, out]
  · simp [appliedRecord, cascaded_snoc, none, hb]

/-- A busy carrier keeps its record as the application is taken there (R15). -/
theorem appliedRecord_busy {s : State} {p : Policy} {done : List Carrier} {a : Carrier} (hb : (s.carrier a).state.busy = true) :
    appliedRecord s p (done ++ [a]) a = appliedRecord s p done a := by
  have here : anchorLost s p a = false := by
    simp only [anchorLost, newlyLost]
    cases h : (s.carrier a).state <;> simp_all [CarrierState.busy]
  simp [appliedRecord, cascaded_snoc, here, appliedAlone_of_busy hb]

/-! ### The operations of the application -/

section Operations

variable (s : State) (c d : Carrier)

theorem arrive_carrier : (s.arrive c).carrier d =
    if c = d then
      if (s.carrier c).values.sensing && !s.readyLevel c then (s.carrier c).enter .queued (some .routine)
      else (s.carrier c).enter .on none
    else s.carrier d := by
  have same : ∀ e, (s.setFigures c .arriving).carrier e = s.carrier e := fun _ => rfl
  rw [State.arrive]
  rw [same, show (s.setFigures c .arriving).readyLevel c = s.readyLevel c from rfl]
  split
  · rw [queueCarrier_carrier, same, same]; rfl
  · rw [transition_carrier, same, same]

theorem withdraw_carrier : (s.withdraw c).carrier d = if c = d then (s.carrier c).enter .absent none else s.carrier d := by
  rw [State.withdraw, ← transition_carrier s c d .absent .policy none]; rfl

theorem readyLost_carrier : (s.readyLost c).carrier d =
    if c = d then (s.carrier c).enter .faulted none
    else if s.isAnchor c = true ∧ s.isCapacity d = true ∧ (s.carrier d).values.sector = (s.carrier c).values.sector then
      (s.carrier d).woken .urgent
    else s.carrier d := by
  have values : ∀ e, ((s.transition c .faulted .readyLost none).carrier e).values = (s.carrier e).values := by
    intro e
    rw [transition_carrier]
    split
    · next h => rw [enter_values, h]
    · rfl
  have capacity : (s.transition c .faulted .readyLost none).isCapacity d = s.isCapacity d := by
    rw [State.isCapacity, values]; rfl
  rw [State.readyLost]
  split
  · next ha =>
    rw [cascade_carrier, capacity, values]
    by_cases e : c = d
    · subst e
      have : s.isCapacity c = false := by
        simp only [State.isAnchor, State.isCapacity, Bool.and_eq_true, beq_iff_eq] at ha ⊢
        simp [ha.2]
      simp [this, transition_carrier]
    · simp [transition_carrier, e, ha]
  · next ha => rw [transition_carrier]; simp [ha]

end Operations

/-! ### The application at one carrier after the other -/

/-- The carriers `done` have taken the application of a policy (R11): the records, the figures, and the ready lines as they were. -/
structure AppliedAt (s : State) (p : Policy) (done : List Carrier) (u : State) : Prop where
  records : ∀ c, u.carrier c = appliedRecord s p done c
  figures : ∀ c, u.figures c = appliedFigures s p done c
  ready : ∀ c, u.readyLevel c = s.readyLevel c

theorem appliedRecord_values (s : State) (p : Policy) (done : List Carrier) (c : Carrier) :
    (appliedRecord s p done c).values = p.entries.get c := by
  have alone : (appliedAlone s p c).values = p.entries.get c := by
    rw [appliedAlone]
    repeat' split
    all_goals simp [enter_values]
  rw [appliedRecord]
  split
  all_goals split
  all_goals simp [woken_values, alone]

/-- A record woken of a busy carrier is in a state in which the application does nothing at a carrier that keeps its structure. -/
theorem appliedRecord_busy_state {s : State} {p : Policy} {done : List Carrier} {a : Carrier}
    (hb : (s.carrier a).state.busy = true) :
    (appliedRecord s p done a).state.busy = true
      ∨ (appliedRecord s p done a).state = .on ∧ (p.entries.get a).present = true := by
  have base : (if a ∈ done then appliedAlone s p a else { s.carrier a with values := p.entries.get a })
      = { s.carrier a with values := p.entries.get a } := by
    rw [appliedAlone_of_busy hb, ite_self]
  rw [appliedRecord, base]
  split
  · next h =>
    obtain ⟨b, -, hb'⟩ := List.any_eq_true.mp h
    have present : (p.entries.get a).present = true := by
      simp only [capacityBeside, Bool.and_eq_true] at hb'; exact hb'.1.2.1.1
    rw [CarrierRecord.woken.eq_def]
    cases hs : (s.carrier a).state <;> simp_all [CarrierState.busy]
  · exact .inl hb

theorem anchorLost_of_not_on {s : State} {p : Policy} {a : Carrier} (h : newlyLost s p a = false) : anchorLost s p a = false := by
  rw [anchorLost, h, Bool.false_and]

theorem newlyLost_state {s : State} {p : Policy} {a : Carrier} (h : (s.carrier a).state ≠ .on) : newlyLost s p a = false := by
  simp [newlyLost, h]

/-- The figures at a carrier that neither becomes present nor is withdrawn (R79). -/
theorem appliedFigures_snoc_kept {s : State} {p : Policy} {done : List Carrier} {a : Carrier}
    (h : ((s.carrier a).state = .absent → (p.entries.get a).present = false)
      ∧ ((s.carrier a).state = .on ∨ (s.carrier a).state = .faulted → (p.entries.get a).present = true)) (c : Carrier) :
    appliedFigures s p (done ++ [a]) c = appliedFigures s p done c := by
  by_cases e : c = a
  · subst e
    obtain ⟨absent, gone⟩ := h
    simp only [appliedFigures, List.mem_append, List.mem_singleton, or_true, true_and]
    rw [if_neg (fun hc => by simp [absent hc.1] at hc), if_neg (fun hc => by simp [gone hc.1] at hc),
      if_neg (fun hc => by simp [absent hc.2.1] at hc), if_neg (fun hc => by simp [gone hc.2.1] at hc)]
  · simp [appliedFigures, e]

theorem appliedFigures_snoc_of_ne {s : State} {p : Policy} {done : List Carrier} {a c : Carrier} (h : c ≠ a) :
    appliedFigures s p (done ++ [a]) c = appliedFigures s p done c := by
  simp [appliedFigures, h]

namespace AppliedAt

variable {s u : State} {p : Policy} {done : List Carrier} {a : Carrier} (h : AppliedAt s p done u)
include h

theorem values (c : Carrier) : (u.carrier c).values = p.entries.get c := by rw [h.records, appliedRecord_values]

/-- What leaves every other carrier, without a loss of an anchor. -/
theorem snoc {t : State} (lost : anchorLost s p a = false) (record : t.carrier a = appliedRecord s p (done ++ [a]) a)
    (others : ∀ c, c ≠ a → t.carrier c = u.carrier c) (figures : ∀ c, t.figures c = appliedFigures s p (done ++ [a]) c)
    (ready : ∀ c, t.readyLevel c = u.readyLevel c) : AppliedAt s p (done ++ [a]) t where
  records c := by
    by_cases e : c = a
    · exact e ▸ record
    · rw [others c e, h.records, appliedRecord_snoc_of_ne e, lost]; rfl
  figures := figures
  ready c := by rw [ready, h.ready]

/-- A carrier is withdrawn (R13). -/
theorem withdraw (hd : ∀ c ∈ done, c < a) (hs : (s.carrier a).state = .on ∨ (s.carrier a).state = .faulted)
    (gone : (p.entries.get a).present = false) : AppliedAt s p (done ++ [a]) (u.withdraw a) := by
  have hb : (s.carrier a).state.busy = false := by obtain hs | hs := hs <;> rw [hs] <;> rfl
  obtain ⟨before, after⟩ := appliedRecord_next (p := p) hd hb
  refine h.snoc (anchorLost_of_not_on ?_) ?_ (fun c e => ?_) (fun c => ?_) (fun c => ?_)
  · simp [newlyLost, gone]
  · rw [withdraw_carrier, if_pos rfl, h.records, before, after, appliedAlone]
    obtain hs | hs := hs <;> simp [hs, gone]
  · rw [withdraw_carrier, if_neg (Ne.symm e)]
  · rw [State.withdraw, figures_setFigures, transition_figures]
    by_cases e : a = c
    · subst e
      have : (s.carrier a).state ≠ .absent := by obtain hs | hs := hs <;> simp [hs]
      simp [appliedFigures, this, hs, gone]
    · simp [e, h.figures, appliedFigures_snoc_of_ne (Ne.symm e)]
  · exact (transition_changes u a .absent .policy none).readyLevel c

/-- A carrier becomes present (R12). -/
theorem arrive (hd : ∀ c ∈ done, c < a) (hs : (s.carrier a).state = .absent) (arrives : (p.entries.get a).present = true) :
    AppliedAt s p (done ++ [a]) (u.arrive a) := by
  have hb : (s.carrier a).state.busy = false := by rw [hs]; rfl
  obtain ⟨before, after⟩ := appliedRecord_next (p := p) hd hb
  have changes : OnlyChanges (u.setFigures a .arriving) (u.arrive a) [.controller, .evaluator, .report, .arbiter, .due] := by
    rw [State.arrive]
    split
    · exact (queueCarrier_changes _ _ _ _).mono (by decide)
    · exact (transition_changes _ _ _ _ _).mono (by decide)
  have record : (u.setFigures a .arriving).carrier a = { s.carrier a with values := p.entries.get a } := by
    rw [← before, ← h.records]; rfl
  refine h.snoc (anchorLost_of_not_on (newlyLost_state (by simp [hs]))) ?_ (fun c e => ?_) (fun c => ?_) (fun c => ?_)
  · rw [arrive_carrier, if_pos rfl, h.records, before, after, h.ready, appliedAlone]
    simp [hs, arrives]
  · rw [arrive_carrier, if_neg (Ne.symm e)]
  · have kept : (u.arrive a).figures c = (u.setFigures a .arriving).figures c := by
      rw [State.arrive]
      split
      · rw [State.queueCarrier, (enqueue_changes _ _ _).figures, transition_figures, record]
        simp [hs]
      · rw [transition_figures, record]
        simp [hs]
    rw [kept, figures_setFigures]
    by_cases e : a = c
    · subst e; simp [appliedFigures, hs, arrives]
    · simp [e, h.figures, appliedFigures_snoc_of_ne (Ne.symm e)]
  · exact changes.readyLevel c

/-- A carrier in FAULTED is queued again (R15). -/
theorem requeue (hd : ∀ c ∈ done, c < a) (hs : (s.carrier a).state = .faulted) (stays : (p.entries.get a).present = true) :
    AppliedAt s p (done ++ [a]) (u.queueCarrier a .policy .routine) := by
  have hb : (s.carrier a).state.busy = false := by rw [hs]; rfl
  obtain ⟨before, after⟩ := appliedRecord_next (p := p) hd hb
  refine h.snoc (anchorLost_of_not_on (newlyLost_state (by simp [hs]))) ?_ (fun c e => ?_) (fun c => ?_) (fun c => ?_)
  · rw [queueCarrier_carrier, if_pos rfl, h.records, before, after, appliedAlone]
    simp [hs, stays, CarrierRecord.enter]
  · rw [queueCarrier_carrier, if_neg (Ne.symm e)]
  · rw [State.queueCarrier, (enqueue_changes _ _ _).figures, transition_figures, h.figures,
      appliedFigures_snoc_kept ⟨by simp [hs], fun _ => stays⟩]
    simp [h.figures]
  · exact (queueCarrier_changes u a .policy .routine).readyLevel c

/-- A carrier in ON loses a ready line newly sensed, an anchor with its sector (R14, R16). -/
theorem readyLost (hd : ∀ c, c ∈ done ↔ c < a) (hl : newlyLost s p a = true) : AppliedAt s p (done ++ [a]) (u.readyLost a) := by
  have lost := hl
  simp only [newlyLost, Bool.and_eq_true, beq_iff_eq] at hl
  obtain ⟨⟨⟨⟨hs, stays⟩, -⟩, -⟩, -⟩ := hl
  have hb : (s.carrier a).state.busy = false := by rw [hs]; rfl
  obtain ⟨before, after⟩ := appliedRecord_next (p := p) (fun c hc => (hd c).mp hc) hb
  have changes := readyLost_changes u a
  refine ⟨fun c => ?_, fun c => ?_, fun c => by rw [changes.readyLevel, h.ready]⟩
  · rw [readyLost_carrier]
    by_cases e : a = c
    · subst e
      rw [if_pos rfl, h.records, before, after, appliedAlone]
      simp [hs, stays, lost]
    · rw [if_neg e, appliedRecord_snoc_of_ne (Ne.symm e), ← h.records]
      have beside : (u.isAnchor a = true ∧ u.isCapacity c = true ∧ (u.carrier c).values.sector = (u.carrier a).values.sector)
          ↔ (anchorLost s p a && capacityBeside p a c) = true := by
        simp only [State.isAnchor, State.isCapacity, h.values, anchorLost, lost, stays, capacityBeside, Bool.true_and,
          Bool.and_eq_true, beq_iff_eq, and_assoc]
      by_cases hbeside : (anchorLost s p a && capacityBeside p a c) = true
      · rw [if_pos (beside.mpr hbeside), hbeside, Bool.true_and]
        split
        · rfl
        · next hn =>
          simp only [Bool.or_eq_true, decide_eq_true_eq, not_or, Bool.not_eq_true] at hn
          obtain ⟨still, later⟩ := hn
          have out : ∀ b ∈ done, b < c := fun b hb' => lt_of_lt_of_le ((hd b).mp hb') (not_lt.mp later)
          rw [h.records, (appliedRecord_next out still).1]
          exact woken_of_not_busy (r := { s.carrier c with values := p.entries.get c }) still _
      · rw [if_neg (beside.not.mpr hbeside), if_neg (by simp_all)]
  · rw [changes.figures, h.figures, appliedFigures_snoc_kept ⟨by simp [hs], fun _ => stays⟩]

/-- The application at the next carrier, by its state before the application (R12 to R15). -/
theorem applyCarrier_eq (hd : ∀ c ∈ done, c < a)
    (same : (s.carrier a).state.busy = true → SameStructure (s.carrier a).values (p.entries.get a)) :
    u.applyCarrier a (s.carrier a).values.sensing =
      if (s.carrier a).state = .absent ∧ (p.entries.get a).present = true then u.arrive a
      else if ((s.carrier a).state = .on ∨ (s.carrier a).state = .faulted) ∧ (p.entries.get a).present = false then u.withdraw a
      else if (s.carrier a).state = .faulted then u.queueCarrier a .policy .routine
      else if newlyLost s p a = true then u.readyLost a
      else u := by
  by_cases hb : (s.carrier a).state.busy = true
  · have left : u.applyCarrier a (s.carrier a).values.sensing = u := by
      rw [State.applyCarrier, h.values, ← (same hb).sensing]
      have := h.records a ▸ appliedRecord_busy_state (done := done) (p := p) hb
      obtain hbusy | ⟨hon, hp⟩ := this
      · cases hs : (u.carrier a).state <;> simp_all [CarrierState.busy]
      · simp [hon, hp]
    rw [left]
    cases hs : (s.carrier a).state <;> simp_all [CarrierState.busy, newlyLost]
  · have hb : (s.carrier a).state.busy = false := by simpa using hb
    have found : u.carrier a = { s.carrier a with values := p.entries.get a } :=
      (h.records a).trans (appliedRecord_next (p := p) hd hb).1
    rw [State.applyCarrier, found, h.ready]
    cases hs : (s.carrier a).state <;> simp only [hs, CarrierState.busy, reduceCtorEq] at hb ⊢
    case absent => simp [newlyLost, hs]
    case on => cases hp : (p.entries.get a).present <;> simp [newlyLost, hs, hp]
    case faulted => cases hp : (p.entries.get a).present <;> simp

/-- A carrier at which the application does nothing (R15). -/
theorem left (hd : ∀ c ∈ done, c < a) (absent : (s.carrier a).state = .absent → (p.entries.get a).present = false)
    (stays : (s.carrier a).state = .on ∨ (s.carrier a).state = .faulted → (p.entries.get a).present = true)
    (hf : (s.carrier a).state ≠ .faulted) (lost : newlyLost s p a = false) : AppliedAt s p (done ++ [a]) u := by
  refine h.snoc (anchorLost_of_not_on lost) ?_ (fun _ _ => rfl) (fun c => ?_) (fun _ => rfl)
  · rw [h.records]
    by_cases hb : (s.carrier a).state.busy = true
    · rw [appliedRecord_busy hb]
    · obtain ⟨before, after⟩ := appliedRecord_next (p := p) hd (by simpa using hb)
      rw [before, after, appliedAlone]
      cases hs : (s.carrier a).state <;> simp_all [CarrierState.busy]
  · rw [h.figures, appliedFigures_snoc_kept ⟨absent, stays⟩]

/-- The application at the next carrier. -/
theorem next (hd : ∀ c, c ∈ done ↔ c < a)
    (same : (s.carrier a).state.busy = true → SameStructure (s.carrier a).values (p.entries.get a)) :
    AppliedAt s p (done ++ [a]) (u.applyCarrier a (s.carrier a).values.sensing) := by
  have below : ∀ c ∈ done, c < a := fun c hc => (hd c).mp hc
  rw [h.applyCarrier_eq below same]
  split
  · next hs => exact h.arrive below hs.1 hs.2
  · next absent =>
    split
    · next hs => exact h.withdraw below hs.1 hs.2
    · next stays =>
      have stays : (s.carrier a).state = .on ∨ (s.carrier a).state = .faulted → (p.entries.get a).present = true := by
        simpa using stays
      split
      · next hs => exact h.requeue below hs (stays (.inr hs))
      · next hf =>
        split
        · next hl => exact h.readyLost hd hl
        · next hl => exact h.left below (by simpa using absent) stays hf (by simpa using hl)

end AppliedAt

/-- A split of the carriers in ascending order: those before are those below. -/
theorem mem_before {done rest : List Carrier} {a : Carrier} (h : done ++ a :: rest = carriers) (c : Carrier) :
    c ∈ done ↔ c < a := by
  have sorted : (done ++ a :: rest).Pairwise (· < ·) := h ▸ List.pairwise_lt_finRange 24
  rw [List.pairwise_append, List.pairwise_cons] at sorted
  obtain ⟨-, ⟨after, -⟩, across⟩ := sorted
  refine ⟨fun hc => across c hc a List.mem_cons_self, fun hc => ?_⟩
  have mem : c ∈ done ++ a :: rest := h ▸ mem_carriers c
  obtain hm | hm := List.mem_append.mp mem
  · exact hm
  · obtain rfl | hm := List.mem_cons.mp hm
    · exact absurd hc (lt_irrefl _)
    · exact absurd hc (lt_asymm (after c hm))

/-- The application at all carriers (R11). -/
theorem AppliedAt.all {s u : State} {p : Policy} {done rest : List Carrier} (h : AppliedAt s p done u)
    (hl : done ++ rest = carriers)
    (same : ∀ c, (s.carrier c).state.busy = true → SameStructure (s.carrier c).values (p.entries.get c)) :
    AppliedAt s p carriers (rest.foldl (fun t c => t.applyCarrier c (s.carrier c).values.sensing) u) := by
  induction rest generalizing done u with
  | nil => rw [List.append_nil] at hl; subst hl; exact h
  | cons a rest ih => exact ih (h.next (mem_before hl) (same a)) (by simpa using hl)

/-! ### An application as a whole -/

/-- The state in which the Carrier Controller takes an application: the blocks before it have taken theirs (R145). -/
def State.readied (s : State) (written : Policy) : State :=
  let p := clampPolicy written
  let u := ((s.beginWindows.evaluatorTakes p).install p).takeRing p
  ((u.hand (.policyApplied (mirrorGeneration s.loader.mirror) (clampedNames written p))).transitTakes p).monitorTakes p

theorem beginWindows_changes (s : State) : OnlyChanges s s.beginWindows [.timer] := by
  rw [State.beginWindows]
  split
  · intro p hp; cases p <;> simp_all [SamePart]
  · exact .refl _ _

theorem evaluatorTakes_changes (s : State) (p : Policy) : OnlyChanges s (s.evaluatorTakes p) [.timer, .evaluator] := by
  intro q hq
  rw [State.evaluatorTakes.eq_def]
  dsimp only
  split
  · cases q <;> simp_all [SamePart]
  · split <;> cases q <;> simp_all [SamePart]

theorem takeRing_onlyReport (s : State) (p : Policy) : OnlyChanges s (s.takeRing p) [.report] := by
  rw [State.takeRing]
  split
  · exact .refl _ _
  · intro q hq; cases q <;> simp_all [SamePart]

theorem applyGeneration_eq (s : State) (w : Policy) : s.applyGeneration w =
    ((((s.readied w).controllerTakes (clampPolicy w)).timerTakes s.slotLength).heartbeatTakes
      (s.loader.applied.map (fun q => q.globals.heartbeatCode)) (clampPolicy w).globals.heartbeatCode) := by
  have mirror : ((s.beginWindows.evaluatorTakes (clampPolicy w)).install (clampPolicy w)).loader.mirror = s.loader.mirror := by
    show (s.beginWindows.evaluatorTakes (clampPolicy w)).loader.mirror = _
    rw [(evaluatorTakes_changes _ _).loader, (beginWindows_changes s).loader]
  rw [State.applyGeneration, State.readied, mirror]

theorem readied_changes (s : State) (w : Policy) :
    OnlyChanges s (s.readied w) [.timer, .evaluator, .loader, .report, .transit, .monitor] := by
  have first : OnlyChanges s ((s.beginWindows.evaluatorTakes (clampPolicy w)).install (clampPolicy w))
      [.timer, .evaluator, .loader] := by
    refine ((beginWindows_changes s).seq (evaluatorTakes_changes _ (clampPolicy w)) (n := [.timer, .evaluator, .loader])).trans ?_
    intro q hq; cases q <;> simp_all [SamePart, State.install]
  have last : ∀ u : State, OnlyChanges u ((u.transitTakes (clampPolicy w)).monitorTakes (clampPolicy w)) [.transit, .monitor] := by
    intro u q hq; cases q <;> simp_all [SamePart, State.transitTakes, State.monitorTakes]
  exact ((first.seq (takeRing_onlyReport _ _) (n := [.timer, .evaluator, .loader, .report])).seq (hand_changes _ _)
    (n := [.timer, .evaluator, .loader, .report])).seq (last _)

theorem evaluatorTakes_figures (s : State) (p : Policy) (c : Carrier) : (s.evaluatorTakes p).figures c = s.figures c := by
  rw [State.evaluatorTakes.eq_def]
  dsimp only
  split
  · rfl
  · split <;> rfl

theorem readied_figures (s : State) (w : Policy) (c : Carrier) : (s.readied w).figures c = s.figures c := by
  show (((s.beginWindows.evaluatorTakes (clampPolicy w)).install (clampPolicy w)).takeRing (clampPolicy w)).figures c = _
  rw [(takeRing_onlyReport _ _).figures]
  show (s.beginWindows.evaluatorTakes (clampPolicy w)).figures c = _
  rw [evaluatorTakes_figures, (beginWindows_changes s).figures]

theorem timerTakes_changes (s : State) (n : Nat) : OnlyChanges s (s.timerTakes n) [.timer, .due] := by
  intro q hq
  rw [State.timerTakes]
  split <;> split <;> cases q <;> simp_all [SamePart]

theorem heartbeatTakes_changes (s : State) (o : Option Nat) (n : Nat) : OnlyChanges s (s.heartbeatTakes o n) [.loader, .report] := by
  intro q hq
  rw [State.heartbeatTakes.eq_def]
  split
  · cases q <;> simp_all [SamePart]
  · split
    · split <;> cases q <;> simp_all [SamePart]
    · split
      · dsimp only
        split <;> cases q <;> simp_all [SamePart]
      · cases q <;> simp_all [SamePart]

/-- What the Slot Timer and the heartbeat take last leaves the carriers, the figures and the ready lines (R145). -/
theorem AppliedAt.lastTakes {s u : State} {p : Policy} (h : AppliedAt s p carriers u) (n : Nat) (o : Option Nat) (m : Nat) :
    AppliedAt s p carriers ((u.timerTakes n).heartbeatTakes o m) := by
  have timer := timerTakes_changes u n
  have beat := heartbeatTakes_changes (u.timerTakes n) o m
  exact ⟨fun c => by rw [beat.carrier, timer.carrier, h.records], fun c => by rw [beat.figures, timer.figures, h.figures],
    fun c => by rw [beat.readyLevel, timer.readyLevel, h.ready]⟩

/-- What the Carrier Controller finds as it takes an application: the new values alone (R1). -/
theorem readied_appliedAt (s : State) (w : Policy) : AppliedAt s (clampPolicy w) [] ((s.readied w).copyValues (clampPolicy w)) := by
  have readied := readied_changes s w
  refine ⟨fun c => ?_, fun c => readied_figures s w c, fun c => readied.readyLevel c⟩
  have : ((s.readied w).copyValues (clampPolicy w)).carrier c =
      { (s.readied w).carrier c with values := (clampPolicy w).entries.get c } := get_tabulate _ c
  rw [this, readied.carrier]
  rfl

/-- A generation that passes validation, applied: the record and the figures of every carrier (R11 to R16, R79). -/
theorem applyGeneration_appliedAt {s : State} {w : Policy} (h : validate s w = none) :
    AppliedAt s (clampPolicy w) carriers (s.applyGeneration w) := by
  rw [applyGeneration_eq]
  refine AppliedAt.lastTakes ?_ _ _ _
  have readied := readied_changes s w
  have taken := (readied_appliedAt s w).all (rest := carriers) rfl (fun c hb => sameStructure_of_busy h hb)
  rw [State.controllerTakes]
  simp only [readied.carrier]
  generalize carriers.foldl (fun (t : State) c => t.applyCarrier c (s.carrier c).values.sensing) _ = u at taken
  have attempted := attempt_changes u
  exact ⟨fun c => by rw [attempted.carrier, taken.records], fun c => by rw [attempted.figures, taken.figures],
    fun c => by rw [attempted.readyLevel, taken.ready]⟩

end Sys2Proof.Machine
end

section
/-! PROOF. The law of sleep and the law of a holdover (R3, R17, R100, R106, R112). -/

namespace Sys2Proof.Machine

/-! ### Grants alone are handed on -/

/-- Nothing but grants has been handed on between two states. -/
def AddsGrants (s t : State) : Prop := ∃ l : List Carrier, t.due = s.due ++ l.map .grant

namespace AddsGrants

variable {s t u : State}

theorem of_due (h : t.due = s.due) : AddsGrants s t := ⟨[], by simp [h]⟩

theorem refl (s : State) : AddsGrants s s := of_due rfl

theorem trans (h : AddsGrants s t) (k : AddsGrants t u) : AddsGrants s u := by
  obtain ⟨l, hl⟩ := h
  obtain ⟨m, hm⟩ := k
  exact ⟨l ++ m, by rw [hm, hl]; simp⟩

theorem foldl {α : Type} {f : State → α → State} (h : ∀ s a, AddsGrants s (f s a)) (l : List α) (s : State) :
    AddsGrants s (l.foldl f s) :=
  foldl_keeps (P := AddsGrants s) (fun _ a ht => ht.trans (h _ a)) l (refl s)

/-- Where no event brings a DRAIN, none does with grants added. -/
theorem mayDrain (h : AddsGrants s t) (hs : ∀ d ∈ s.due, d.mayDrain = false) {d : Due} (hd : d ∈ t.due) : d.mayDrain = false := by
  obtain ⟨l, hl⟩ := h
  rw [hl] at hd
  obtain hd | hd := List.mem_append.mp hd
  · exact hs d hd
  · obtain ⟨c, -, rfl⟩ := List.mem_map.mp hd
    rfl

theorem mem (h : AddsGrants s t) {d : Due} (hd : d ∈ s.due) : d ∈ t.due := by
  obtain ⟨l, hl⟩ := h
  rw [hl]
  exact List.mem_append_left _ hd

end AddsGrants

section Operations

variable (s : State) (c : Carrier)

theorem attempt_addsGrants : AddsGrants s s.attempt := by
  obtain ⟨granted, due, -⟩ := attempt_grants s
  exact ⟨granted.map WakeEntry.carrier, by rw [due, List.map_map]; rfl⟩

theorem enqueue_addsGrants (q : WakeClass) : AddsGrants s (s.enqueue c q) :=
  (AddsGrants.of_due rfl).trans (attempt_addsGrants _)

theorem raiseEntry_addsGrants (q : WakeClass) : AddsGrants s (s.raiseEntry c q) := by
  rw [State.raiseEntry]
  split
  · exact .refl s
  · exact (AddsGrants.of_due rfl).trans (attempt_addsGrants _)

theorem release_addsGrants : AddsGrants s (s.release c) := (AddsGrants.of_due rfl).trans (attempt_addsGrants _)

theorem queueCarrier_addsGrants (k : Cause) (q : WakeClass) : AddsGrants s (s.queueCarrier c k q) :=
  (AddsGrants.of_due (transition_changes s c _ k _).due).trans (enqueue_addsGrants _ c q)

theorem raiseClass_addsGrants (k : Cause) (q : WakeClass) : AddsGrants s (s.raiseClass c k q) := by
  rw [State.raiseClass]
  split
  · exact .refl s
  · split
    · exact (AddsGrants.of_due rfl).trans (raiseEntry_addsGrants _ c q)
    · exact .refl s

theorem wake_addsGrants (k : Cause) (q : WakeClass) : AddsGrants s (s.wake c k q) := by
  rw [State.wake]
  split
  · exact .of_due (transition_changes s c _ k _).due
  · exact .of_due (transition_changes s c _ k _).due
  · exact queueCarrier_addsGrants s c k q
  · exact raiseClass_addsGrants s c k q
  all_goals exact .refl s

theorem wakeAll_addsGrants (which : State → Carrier → Bool) (k : Cause) (q : WakeClass) : AddsGrants s (s.wakeAll which k q) := by
  refine AddsGrants.foldl (fun t c => ?_) carriers s
  split
  · exact wake_addsGrants t c k q
  · exact .refl t

theorem readyLost_addsGrants : AddsGrants s (s.readyLost c) := by
  have faulted : AddsGrants s (s.transition c .faulted .readyLost none) := .of_due (transition_changes s c _ _ _).due
  rw [State.readyLost]
  split
  · exact faulted.trans (wakeAll_addsGrants _ _ _ _)
  · exact faulted

theorem applyCarrier_addsGrants (b : Bool) : AddsGrants s (s.applyCarrier c b) := by
  have arrive : AddsGrants s (s.arrive c) := by
    rw [State.arrive]
    split
    · exact (AddsGrants.of_due rfl).trans (queueCarrier_addsGrants _ c _ _)
    · exact .of_due (transition_changes (s.setFigures c .arriving) c _ _ _).due
  have withdraw : AddsGrants s (s.withdraw c) := .of_due (transition_changes s c .absent .policy none).due
  rw [State.applyCarrier]
  split
  · split
    · exact arrive
    · exact .refl s
  · split
    · exact withdraw
    · split
      · exact readyLost_addsGrants s c
      · exact .refl s
  · split
    · exact withdraw
    · exact queueCarrier_addsGrants s c _ _
  all_goals exact .refl s

theorem controllerTakes_addsGrants (p : Policy) : AddsGrants s (s.controllerTakes p) := by
  rw [State.controllerTakes]
  exact (AddsGrants.of_due (t := s.copyValues p) rfl).trans
    ((AddsGrants.foldl (fun t c => applyCarrier_addsGrants t c _) carriers _).trans (attempt_addsGrants _))

end Operations

/-- The events that the taking of a generation hands on: grants, and tick loss (R30, R134). -/
theorem takeGeneration_due (s : State) : ∃ l, s.takeGeneration.due = s.due ++ l ∧ ∀ d ∈ l, d.mayDrain = false := by
  have nothing : ∃ l, s.due = s.due ++ l ∧ ∀ d ∈ l, d.mayDrain = false := ⟨[], by simp⟩
  rw [State.takeGeneration]
  split
  · split
    · exact nothing
    · rw [applyGeneration_eq, (heartbeatTakes_changes _ _ _).due]
      obtain ⟨l, hl⟩ := (AddsGrants.of_due (readied_changes s (readPolicy s.loader.mirror)).due).trans
        (controllerTakes_addsGrants _ (clampPolicy (readPolicy s.loader.mirror)))
      generalize State.controllerTakes _ _ = u at hl
      have grants : ∀ d ∈ l.map Due.grant, d.mayDrain = false := by
        intro d hd
        obtain ⟨c, -, rfl⟩ := List.mem_map.mp hd
        rfl
      have lost : ∃ l, (u.addDue .tickLoss).due = s.due ++ l ∧ ∀ d ∈ l, d.mayDrain = false :=
        ⟨l.map .grant ++ [.tickLoss], by simp [State.addDue, hl], fun d hd => (List.mem_append.mp hd).elim (grants d) (fun h => by
          obtain rfl := List.mem_singleton.mp h; rfl)⟩
      have kept : ∃ l, u.due = s.due ++ l ∧ ∀ d ∈ l, d.mayDrain = false := ⟨_, hl, grants⟩
      rw [State.timerTakes.eq_def]
      split
      · split <;> exact kept
      all_goals
        split
        · exact lost
        · exact kept
  · exact nothing

/-! ### The law of sleep -/

theorem SleepLaw.of_records {s t : State} (h : ∀ c, (t.carrier c).state = (s.carrier c).state ∧ (t.carrier c).values = (s.carrier c).values)
    (hs : SleepLaw s) : SleepLaw t := by
  have anchor : ∀ k, t.anchorOn k = s.anchorOn k := fun k => by simp only [State.anchorOn, State.isAnchor, h]
  intro c
  obtain ⟨absent, sleeps⟩ := hs c
  simp only [State.isCapacity, anchor, h] at absent sleeps ⊢
  exact ⟨absent, sleeps⟩

theorem anchorOn_iff {s : State} {k : Nat} : s.anchorOn k = true ↔
    ∃ a, s.isAnchor a = true ∧ (s.carrier a).values.sector = k ∧ (s.carrier a).state = .on := by
  simp [State.anchorOn, mem_carriers, and_assoc]

theorem isAnchor_of_isCapacity {s : State} {c : Carrier} (h : s.isCapacity c = true) : s.isAnchor c = false := by
  simp_all [State.isCapacity, State.isAnchor]

/-- A transition keeps the law where it leaves no anchor's ON, and enters a sleep state only beside an anchor in ON. -/
theorem SleepLaw.transition {s : State} (hs : SleepLaw s) {c : Carrier} {st : CarrierState} (k : Cause) (q : Option WakeClass)
    (left : (s.carrier c).state ≠ .absent) (entered : st ≠ .absent)
    (sleeps : st.sleeping = true → s.isCapacity c = true ∧ s.anchorOn (s.carrier c).values.sector = true)
    (anchor : s.isAnchor c = true → (s.carrier c).state = .on → st = .on) : SleepLaw (s.transition c st k q) := by
  have values : ∀ d, ((s.transition c st k q).carrier d).values = (s.carrier d).values := by
    intro d
    rw [transition_carrier]
    split
    · next h => rw [enter_values, h]
    · rfl
  have state : ∀ d, ((s.transition c st k q).carrier d).state = if c = d then st else (s.carrier d).state := by
    intro d
    rw [transition_carrier]
    split
    · rw [enter_state]
    · rfl
  have on : ∀ k', s.anchorOn k' = true → (s.transition c st k q).anchorOn k' = true := by
    intro k' h
    obtain ⟨a, ha, hk, hon⟩ := anchorOn_iff.mp h
    refine anchorOn_iff.mpr ⟨a, by simpa only [State.isAnchor, values] using ha, by rw [values, hk], ?_⟩
    rw [state]
    split
    · next e => subst e; exact anchor ha hon
    · exact hon
  intro d
  simp only [State.isCapacity, values, state]
  by_cases e : c = d
  · subst e
    simp only [if_true, entered, false_iff]
    refine ⟨fun h => left ((hs c).1.mpr h), fun h => ?_⟩
    obtain ⟨hc, ha⟩ := sleeps h
    exact ⟨hc, on _ ha⟩
  · simp only [e, if_false]
    exact ⟨(hs d).1, fun h => ⟨((hs d).2 h).1, on _ ((hs d).2 h).2⟩⟩

/-- The loss of a ready line keeps the law: an anchor's sector is woken (R16). -/
theorem SleepLaw.readyLost {s : State} (hs : SleepLaw s) {c : Carrier} (left : (s.carrier c).state.serving = true) :
    SleepLaw (s.readyLost c) := by
  have awake : (s.carrier c).state ≠ .absent := by intro h; rw [h] at left; cases left
  by_cases ha : s.isAnchor c = true
  · have values : ∀ d, ((s.readyLost c).carrier d).values = (s.carrier d).values := by
      intro d
      rw [readyLost_carrier]
      split
      · next h => rw [enter_values, h]
      · split
        · rw [woken_values]
        · rfl
    intro d
    have absent : ((s.readyLost c).carrier d).state = .absent ↔ (s.carrier d).state = .absent := by
      rw [readyLost_carrier]
      split
      · next h => subst h; rw [enter_state]; simp [awake]
      · split
        · rw [CarrierRecord.woken.eq_def]
          cases h : (s.carrier d).state <;> simp [h]
        · rfl
    refine ⟨by rw [absent, values]; exact (hs d).1, fun h => ?_⟩
    rw [readyLost_carrier] at h
    split at h
    · rw [enter_state] at h; cases h
    · next hne =>
      split at h
      · rw [woken_awake] at h; cases h
      · next hn =>
        obtain ⟨capacity, on⟩ := (hs d).2 h
        obtain ⟨a, haa, hk, hon⟩ := anchorOn_iff.mp on
        have other : (s.carrier d).values.sector ≠ (s.carrier c).values.sector := fun e => hn ⟨ha, capacity, e⟩
        refine ⟨by simpa only [State.isCapacity, values] using capacity, ?_⟩
        rw [values]
        refine anchorOn_iff.mpr ⟨a, by simpa only [State.isAnchor, values] using haa, by rw [values, hk], ?_⟩
        rw [readyLost_carrier, if_neg (fun e => other (by rw [← hk, ← e])), if_neg, hon]
        rintro ⟨-, hcap, -⟩
        rw [isAnchor_of_isCapacity hcap] at haa
        cases haa
  · rw [State.readyLost, if_neg ha]
    exact hs.transition _ _ awake (by simp) (by simp [CarrierState.sleeping]) (fun h => absurd h ha)

/-! ### The law of sleep and an application -/

theorem clampPolicy_anchors (p : Policy) (k : Nat) : (clampPolicy p).anchors k = p.anchors k := by
  simp [Policy.anchors, Policy.members, Policy.presentCarriers]

theorem mem_anchors {p : Policy} {k : Nat} {a : Carrier} : a ∈ p.anchors k ↔ AnchorIn p k a := by
  simp [Policy.anchors, Policy.members, Policy.presentCarriers, AnchorIn, mem_carriers]
  tauto

theorem mem_tableAnchors {s : State} {k : Nat} {a : Carrier} :
    a ∈ s.tableAnchors k ↔ s.isAnchor a = true ∧ (s.carrier a).values.sector = k := by
  simp only [State.tableAnchors, State.tableMembers, List.mem_filter, mem_carriers, State.isAnchor, Bool.and_eq_true,
    beq_iff_eq, true_and]
  tauto

/-- The sectors of a generation that passes validation are those there are (R141). -/
theorem sector_of_valid {s : State} {p : Policy} (h : validate s p = none) {c : Carrier} (hc : (p.entries.get c).present = true) :
    (p.entries.get c).sector ∈ sectors := by
  obtain ⟨-, hs, -⟩ := validate_eq_none.mp h
  rw [checkSectors, Option.map_eq_none_iff, List.find?_eq_none] at hs
  have := hs c (by simp [Policy.presentCarriers, mem_carriers, hc])
  simp only [decide_eq_true_eq, not_lt] at this
  exact List.mem_range.mpr (Nat.lt_succ_of_le this)

/-- The anchors of a sector with a busy member stay (R142). -/
theorem anchors_of_busy {s : State} {p : Policy} (h : validate s p = none) {c : Carrier} (hb : (s.carrier c).state.busy = true)
    (hc : (s.carrier c).values.present = true) :
    s.tableAnchors (s.carrier c).values.sector = (clampPolicy p).anchors (s.carrier c).values.sector := by
  have same := sameStructure_of_busy h hb
  have mem := sector_of_valid h (c := c) (by simpa [hc] using same.present)
  have hsec : (p.entries.get c).sector = (s.carrier c).values.sector := by simpa using same.sector
  rw [hsec] at mem
  obtain ⟨-, -, -, -, -, -, -, hs⟩ := validate_eq_none.mp h
  rw [checkBusySectors, Option.map_eq_none_iff, List.find?_eq_none] at hs
  have kept := hs _ mem
  have busy : (s.tableMembers (s.carrier c).values.sector).any (fun d => (s.carrier d).state.busy) = true :=
    List.any_eq_true.mpr ⟨c, by simp [State.tableMembers, mem_carriers, hc], hb⟩
  simp only [busySectorChange, busy, Bool.true_and, Bool.or_eq_true, decide_eq_true_eq, not_or, not_not] at kept
  rw [clampPolicy_anchors]
  exact kept.2

/-- The state of a carrier that no wake reaches, once the application has been taken (R12 to R15). -/
theorem appliedAlone_state (s : State) (p : Policy) (c : Carrier) : (appliedAlone s p c).state =
    match (s.carrier c).state with
    | .absent =>
      if (p.entries.get c).present then if (p.entries.get c).sensing && !s.readyLevel c then .queued else .on else .absent
    | .on => if !(p.entries.get c).present then .absent else if newlyLost s p c then .faulted else .on
    | .faulted => if !(p.entries.get c).present then .absent else .queued
    | st => st := by
  rw [appliedAlone]
  cases h : (s.carrier c).state <;> simp only
  case absent => split <;> (try split) <;> simp_all [enter_state]
  case on => split <;> (try split) <;> simp_all [enter_state]
  case faulted => split <;> simp_all [enter_state]
  all_goals exact h

/-- The application alone makes no sleeper and wakes none. -/
theorem appliedAlone_sleeping (s : State) (p : Policy) (c : Carrier) :
    (appliedAlone s p c).state.sleeping = (s.carrier c).state.sleeping := by
  rw [appliedAlone_state]
  cases (s.carrier c).state <;> simp only
  case absent => split_ifs <;> rfl
  case on => split_ifs <;> rfl
  case faulted => split_ifs <;> rfl

theorem woken_state (r : CarrierRecord) (q : WakeClass) : (r.woken q).state =
    match r.state with
    | .draining | .light => .on
    | .deep => .queued
    | st => st := by
  rw [CarrierRecord.woken.eq_def]
  cases h : r.state <;> simp [h]

section Applied

variable {s t : State} {p : Policy} (h : AppliedAt s p carriers t)
include h

theorem AppliedAt.record (c : Carrier) : t.carrier c =
    if cascaded s p carriers c then (appliedAlone s p c).woken .urgent else appliedAlone s p c := by
  rw [h.records, appliedRecord, if_pos (mem_carriers c)]

/-- A carrier that sleeps after an application slept before it, and no wake has reached it. -/
theorem AppliedAt.sleeping {c : Carrier} (hc : (t.carrier c).state.sleeping = true) :
    cascaded s p carriers c = false ∧ (s.carrier c).state.sleeping = true := by
  rw [h.record] at hc
  split at hc
  · rw [woken_awake] at hc; cases hc
  · next hn =>
    refine ⟨by simpa using hn, ?_⟩
    rwa [appliedAlone_sleeping] at hc

/-- A carrier is ABSENT after an application exactly where it is not present. -/
theorem AppliedAt.absent_iff {c : Carrier} (hs : (s.carrier c).state = .absent ↔ (s.carrier c).values.present = false)
    (same : (s.carrier c).state.busy = true → SameStructure (s.carrier c).values (p.entries.get c)) :
    (t.carrier c).state = .absent ↔ (t.carrier c).values.present = false := by
  have woken : ∀ r : CarrierRecord, (r.woken .urgent).state = .absent ↔ r.state = .absent := by
    intro r
    rw [woken_state]
    cases r.state <;> simp
  have alone : (t.carrier c).state = .absent ↔ (appliedAlone s p c).state = .absent := by
    rw [h.record]
    split
    · exact woken _
    · rfl
  rw [alone, h.values, appliedAlone_state]
  have busy : (s.carrier c).state.busy = true → (s.carrier c).state ≠ .absent →
      ((s.carrier c).state = .absent ↔ (p.entries.get c).present = false) := by
    intro hb _
    rw [(same hb).present]
    exact hs
  cases hst : (s.carrier c).state
  case absent => cases (p.entries.get c).present <;> simp
                 split <;> simp
  case on => cases (p.entries.get c).present <;> simp
             split <;> simp
  case faulted => cases (p.entries.get c).present <;> simp
  all_goals simpa [hst] using busy (by rw [hst]; rfl) (by simp [hst])

end Applied

theorem busy_of_sleeping {st : CarrierState} (h : st.sleeping = true) : st.busy = true := by
  cases st <;> simp_all [CarrierState.sleeping, CarrierState.busy]

/-- An application keeps the law: a sleeper keeps its sector, whose anchor stays in ON or takes the sector with it (R16, R142). -/
theorem SleepLaw.applyGeneration {s : State} {w : Policy} (hs : SleepLaw s) (hv : validate s w = none) :
    SleepLaw (s.applyGeneration w) := by
  have applied := applyGeneration_appliedAt hv
  generalize s.applyGeneration w = t at applied
  intro c
  refine ⟨applied.absent_iff (hs c).1 (fun hb => sameStructure_of_busy hv hb), fun hc => ?_⟩
  obtain ⟨unwoken, slept⟩ := applied.sleeping hc
  have hb := busy_of_sleeping slept
  obtain ⟨capacity, on⟩ := (hs c).2 slept
  have same := sameStructure_of_busy hv hb
  have present : (s.carrier c).values.present = true := by
    simp only [State.isCapacity, Bool.and_eq_true] at capacity; exact capacity.1
  refine ⟨by simpa only [State.isCapacity, applied.values, same.present, same.role] using capacity, ?_⟩
  obtain ⟨a, ha, hk, hon⟩ := anchorOn_iff.mp on
  have member : AnchorIn (clampPolicy w) (s.carrier c).values.sector a :=
    mem_anchors.mp (anchors_of_busy hv hb present ▸ mem_tableAnchors.mpr ⟨ha, hk⟩)
  obtain ⟨hp, hsec, hrole⟩ := member
  have lost : newlyLost s (clampPolicy w) a = false := by
    by_contra hl
    have hl : newlyLost s (clampPolicy w) a = true := by simpa using hl
    have : cascaded s (clampPolicy w) carriers c = true := by
      refine List.any_eq_true.mpr ⟨a, mem_carriers a, ?_⟩
      simp only [State.isCapacity, Bool.and_eq_true, beq_iff_eq] at capacity
      simp [anchorLost, hl, hrole, capacityBeside, same.present, same.role, same.sector, capacity, hsec, hb, -clampPolicy_entry]
    rw [unwoken] at this
    cases this
  rw [applied.values, same.sector]
  refine anchorOn_iff.mpr ⟨a, by simp [State.isAnchor, applied.values, hp, hrole, -clampPolicy_entry], by rw [applied.values, hsec], ?_⟩
  rw [applied.record]
  have alone : (appliedAlone s (clampPolicy w) a).state = .on := by rw [appliedAlone_state, hon]; simp [hp, lost, -clampPolicy_entry]
  split
  · rw [woken_state, alone]
  · exact alone

/-! ### Laws that do not look at the Slot Timer -/

/-- What a law has to be kept by that looks at the carriers, the arbiter and the grants outstanding alone. -/
structure BlindLaw (P : State → Prop) : Prop extends CarrierOps (fun _ => True) P where
  clock : ∀ (s : State) (t : SlotTimer), P s → P { s with timer := t }
  forget : ∀ (s : State) (l : List Due), grantsOutstanding l = grantsOutstanding s.due → P s → P { s with due := l }
  takeGeneration : ∀ s : State, P s → P s.takeGeneration
  powerOnReset : ∀ (s t : State) (b : BitVec 20) (m : Master), execPowerOnReset b m s = .next t → P s → P t

namespace BlindLaw

variable {P : State → Prop} (hP : BlindLaw P) {s : State}
include hP

theorem enterHoldover (hs : P s) : P s.enterHoldover :=
  hP.handRecord _ (hP.clock s.flushAll { s.timer with state := .holdover, clean := false, holdover := some 0 }
    (hP.neutral s s.flushAll rfl rfl rfl rfl hs))

theorem takes : CarrierTakes (fun _ => True) P where
  toCarrierOps := hP.toCarrierOps
  takeHoldover s _ _ h hs := hP.takeFailSafe _ (hP.forget s _ (grantsOutstanding_rest h rfl) hs)
  takeGeneration := hP.takeGeneration

theorem takeTickLoss (hs : P s) : P s.takeTickLoss := by
  have lost := hP.takes.takeLocalTick usualOrder (hP.takeFailSafe .holdover (hP.enterHoldover hs))
  rw [State.takeTickLoss.eq_def]
  split
  · exact lost
  · exact lost
  · exact hs

theorem takeSteps {next : List Due → Option (Due × List Due)} (hn : ∀ l d rest, next l = some (d, rest) →
    ∃ which, firstDue which l = some (d, rest)) (n : Nat) (hs : P s) : P (takeSteps next n s) := by
  refine takeSteps_keeps (fun t d rest h ht => ?_) n hs
  obtain ⟨which, hw⟩ := hn _ _ _ h
  by_cases hd : d = .tickLoss
  · subst hd
    exact hP.takeTickLoss (hP.forget t _ (grantsOutstanding_rest hw rfl) ht)
  · exact hP.takes.takeDue hw hd ht

theorem takeHoldoverCause (cause : HoldoverOrder) (wait : Bool) (hs : P s) : P (s.takeHoldoverCause cause wait) := by
  have picked : ∀ {l : List Due} {d : Due} {rest : List Due}, nextDue wait l = some (d, rest) →
      ∃ which, firstDue which l = some (d, rest) := fun h => by
    obtain ⟨-, hw⟩ | ⟨-, hw, -⟩ := nextDue_cases h
    · exact hw
    · exact ⟨_, hw⟩
  have settle : ∀ {t : State}, P t → P (t.settle wait) := fun ht => hP.takeSteps (fun _ _ _ h => picked h) _ ht
  have drained : P s.takeDrains := hP.takeSteps (fun _ _ _ h => ⟨_, h⟩) _ hs
  cases cause with
  | beforeOutstanding => exact settle (hP.takeFailSafe _ drained)
  | afterOutstanding => exact settle (hP.addDue _ ⟨rfl, rfl⟩ drained)
  | afterLocalTick => exact hP.addDue _ ⟨rfl, rfl⟩ (settle drained)

/-- Every step keeps such a law. -/
theorem invariant : Invariant P := by
  have law : CarrierLaw (fun _ => True) P :=
    { hP.takes with
      enterHoldover := fun _ _ hs => hP.takeFailSafe _ (hP.enterHoldover hs)
      tickLoss := fun _ cause wait _ hs => hP.takeHoldoverCause cause wait (hP.enterHoldover hs)
      powerOnReset := hP.powerOnReset }
  exact law.invariant

end BlindLaw

theorem SleepLaw.queueCarrier {s : State} (hs : SleepLaw s) {c : Carrier} (k : Cause) (q : WakeClass)
    (h : (s.carrier c).state = .deep) : SleepLaw (s.queueCarrier c k q) := by
  have capacity := ((hs c).2 (by rw [h]; rfl)).1
  have queued := hs.transition k (some q) (st := .queued) (c := c) (by simp [h]) (by simp) (by simp [CarrierState.sleeping])
    (fun ha => by rw [isAnchor_of_isCapacity capacity] at ha; cases ha)
  exact queued.of_records fun d => by rw [State.queueCarrier, enqueue_carrier]; exact ⟨rfl, rfl⟩

theorem SleepLaw.endWarmup {s : State} (hs : SleepLaw s) {c : Carrier} {st : CarrierState} (k : Cause)
    (h : (s.carrier c).state = .warming) (hst : st = .on ∨ st = .faulted) : SleepLaw (s.endWarmup c st k) := by
  have dropped : SleepLaw (s.dropExpiry c) := hs
  have ended := dropped.transition (c := c) (st := st) k none (by rw [show (s.dropExpiry c).carrier c = s.carrier c from rfl, h]; simp)
    (by obtain rfl | rfl := hst <;> simp) (by obtain rfl | rfl := hst <;> simp [CarrierState.sleeping])
    (fun _ hon => by rw [show (s.dropExpiry c).carrier c = s.carrier c from rfl, h] at hon; cases hon)
  exact ended.of_records fun d => by rw [State.endWarmup, release_carrier]; exact ⟨rfl, rfl⟩

theorem SleepLaw.takeGrant {s : State} (hs : SleepLaw s) (c : Carrier) : SleepLaw (s.takeGrant c) := by
  rw [State.takeGrant]
  split
  · next h =>
    have warming := hs.transition (c := c) (st := .warming) .grant none (by simp [h]) (by simp) (by simp [CarrierState.sleeping])
      (fun _ hon => by rw [h] at hon; cases hon)
    exact ite_keeps (warming.endWarmup _ (by rw [transition_carrier_same, enter_state]) (.inl rfl)) warming
  all_goals exact hs

theorem SleepLaw.blind : BlindLaw SleepLaw where
  locked := trivial
  neutral s t hc _ _ _ hs := hs.of_records fun c => by simp [State.carrier, hc]
  leaves _ _ _ hs := hs
  record s c r hst hv _ hs := hs.of_records fun d => by
    rw [carrier_setCarrier]
    split
    · next h => subst h; exact ⟨hst, hv⟩
    · exact ⟨rfl, rfl⟩
  spacing _ _ hs := hs
  events _ _ _ _ _ hs := hs
  drains _ _ _ _ _ := trivial
  attempt s hs := hs.of_records fun c => by rw [(attempt_changes s).carrier]; exact ⟨rfl, rfl⟩
  queueCarrier _ _ k q h hs := hs.queueCarrier k q h
  raiseClass s c k q hs := hs.of_records fun d => by
    rw [raiseClass_carrier]
    split
    · next h => subst h; exact ⟨rfl, rfl⟩
    · exact ⟨rfl, rfl⟩
  toOn s c k h hs := hs.transition k none (by obtain h | h := h <;> simp [h]) (by simp) (by simp [CarrierState.sleeping])
    (fun _ _ => rfl)
  toLight s c k h hs := hs.transition k none (by simp [h]) (by simp) (fun _ => (hs c).2 (by rw [h]; rfl))
    (fun _ hon => by rw [h] at hon; cases hon)
  toDraining s c k _ h hm hs := by
    simp only [State.maySleep, Bool.and_eq_true] at hm
    refine hs.transition k none (by simp [h]) (by simp) (fun _ => hm.1) (fun ha => ?_)
    rw [isAnchor_of_isCapacity hm.1.1] at ha; cases ha
  toDeep s c k h hm hs := hs.transition k none (by simp [h]) (by simp) (fun _ => (hs c).2 (by rw [h]; rfl))
    (fun _ hon => by rw [h] at hon; cases hon)
  endWarmup _ _ _ k h hst hs := hs.endWarmup k h hst
  readyLost _ _ h hs := hs.readyLost h
  takeGrant s _ c rest _ hs := SleepLaw.takeGrant (s := { s with due := rest }) hs c
  clock _ _ hs := hs
  forget _ _ _ hs := hs
  takeGeneration s hs := by
    rw [State.takeGeneration]
    refine ite_keeps ?_ hs
    split
    · exact hs
    · next h => exact hs.applyGeneration h
  powerOnReset s t b m h hs := by
    cases h
    intro c
    have vacant : CarrierController.reset.records.get c = .vacant := get_tabulate _ c
    simp only [State.carrier, vacant]
    exact ⟨by simp [CarrierRecord.vacant, CarrierValues.cleared], by simp [CarrierRecord.vacant, CarrierState.sleeping]⟩

end Sys2Proof.Machine
end

section
/-! PROOF. The law of a holdover (R100, R106, R112): no DRAIN can come in HOLDOVER, and the HOLDOVER cause wakes every capacity
carrier. -/

namespace Sys2Proof.Machine

/-- Every capacity carrier is awake. -/
def Awake (s : State) : Prop := ∀ c : Carrier, s.isCapacity c = true → (s.carrier c).state.sleeping = false

/-- The law of a holdover, with the wake left open where `b` holds. -/
def HoldoverUnless (b : Prop) (s : State) : Prop :=
  s.timer.state = .holdover → (∀ d ∈ s.due, d.mayDrain = false) ∧ (b ∨ .failSafe .holdover ∈ s.due ∨ Awake s)

theorem holdoverLaw_iff (s : State) : HoldoverLaw s ↔ HoldoverUnless False s := by
  simp only [HoldoverLaw, HoldoverUnless, Awake, false_or]

/-- No sleeper comes about between two states, at carriers of the same presence and role. -/
def NoSleeper (s t : State) : Prop :=
  ∀ c : Carrier, t.isCapacity c = true → (t.carrier c).state.sleeping = true →
    s.isCapacity c = true ∧ (s.carrier c).state.sleeping = true

namespace NoSleeper

variable {s t u : State}

theorem awake (h : NoSleeper s t) (hs : Awake s) : Awake t := by
  intro c hc
  by_contra hn
  obtain ⟨capacity, sleeps⟩ := h c hc (by simpa using hn)
  rw [hs c capacity] at sleeps
  cases sleeps

theorem of_records (h : ∀ c, (t.carrier c).values = (s.carrier c).values
    ∧ ((t.carrier c).state.sleeping = true → (s.carrier c).state.sleeping = true)) : NoSleeper s t := by
  intro c hc sleeps
  obtain ⟨values, state⟩ := h c
  exact ⟨by simpa only [State.isCapacity, values] using hc, state sleeps⟩

theorem of_frame {l : List Part} (h : OnlyChanges s t l) (hl : Part.controller ∉ l := by decide) : NoSleeper s t :=
  of_records fun c => by rw [h.carrier c hl]; exact ⟨rfl, id⟩

theorem trans (h : NoSleeper s t) (k : NoSleeper t u) : NoSleeper s u := fun c hc hu =>
  let ⟨hc', ht⟩ := k c hc hu
  h c hc' ht

/-- A transition into a sleep state from one, or into another state. -/
theorem transition {c : Carrier} {st : CarrierState} (k : Cause) (q : Option WakeClass)
    (h : st.sleeping = true → (s.carrier c).state.sleeping = true) : NoSleeper s (s.transition c st k q) := by
  refine of_records fun d => ?_
  rw [transition_carrier]
  split
  · next e => subst e; exact ⟨enter_values _ _ _, by rwa [enter_state]⟩
  · exact ⟨rfl, id⟩

end NoSleeper

namespace HoldoverUnless

variable {b : Prop} {s t : State}

/-- What hands on grants alone and makes no sleeper keeps the law. -/
theorem of_grants (h : AddsGrants s t) (timer : t.timer.state = s.timer.state) (sleepers : NoSleeper s t)
    (hs : HoldoverUnless b s) : HoldoverUnless b t := by
  intro ht
  obtain ⟨drains, woken⟩ := hs (timer ▸ ht)
  exact ⟨fun d hd => h.mayDrain drains hd, woken.imp_right fun w => w.imp h.mem sleepers.awake⟩

theorem transition (hs : HoldoverUnless b s) {c : Carrier} {st : CarrierState} (k : Cause) (q : Option WakeClass)
    (h : st.sleeping = true → (s.carrier c).state.sleeping = true) : HoldoverUnless b (s.transition c st k q) :=
  hs.of_grants (.of_due (transition_changes s c st k q).due) (by rw [(transition_changes s c st k q).timer]) (.transition k q h)

theorem attempt (hs : HoldoverUnless b s) : HoldoverUnless b s.attempt :=
  hs.of_grants (attempt_addsGrants s) (by rw [(attempt_changes s).timer]) (.of_frame (attempt_changes s))

theorem events (hs : HoldoverUnless b s) (l : List Due)
    (hl : ∀ d ∈ l, d.mayDrain = true → d ∈ s.due ∨ s.timer.state ≠ .holdover)
    (cause : .failSafe .holdover ∈ s.due → .failSafe .holdover ∈ l) : HoldoverUnless b { s with due := l } := by
  intro h
  obtain ⟨drains, woken⟩ := hs h
  refine ⟨fun d hd => ?_, woken.imp_right fun w => w.imp_left cause⟩
  by_contra hm
  obtain old | elsewhere := hl d hd (by simpa using hm)
  · exact hm (drains d old)
  · exact elsewhere h

theorem endWarmup (hs : HoldoverUnless b s) {c : Carrier} {st : CarrierState} (k : Cause) (hst : st = .on ∨ st = .faulted) :
    HoldoverUnless b (s.endWarmup c st k) := by
  have dropped : HoldoverUnless b (s.dropExpiry c) :=
    hs.events _ (fun d hd _ => .inl (List.mem_filter.mp hd).1) (fun h => List.mem_filter.mpr ⟨h, rfl⟩)
  have ended := dropped.transition (c := c) (st := st) k none (by obtain rfl | rfl := hst <;> simp [CarrierState.sleeping])
  rw [State.endWarmup]
  generalize State.transition _ _ _ _ _ = u at ended
  exact ended.of_grants (release_addsGrants u c) (by rw [(release_changes u c).timer]) (.of_frame (release_changes u c))

theorem takeGrant (hs : HoldoverUnless b s) (c : Carrier) : HoldoverUnless b (s.takeGrant c) := by
  rw [State.takeGrant]
  split
  · have warming := hs.transition (c := c) (st := .warming) .grant none (by simp [CarrierState.sleeping])
    exact ite_keeps (warming.endWarmup _ (.inl rfl)) warming
  all_goals exact hs

theorem queueCarrier (hs : HoldoverUnless b s) (c : Carrier) (k : Cause) (q : WakeClass) :
    HoldoverUnless b (s.queueCarrier c k q) := by
  refine hs.of_grants (queueCarrier_addsGrants s c k q) (by rw [(queueCarrier_changes s c k q).timer]) (.of_records fun d => ?_)
  rw [queueCarrier_carrier]
  split
  · next e => subst e; exact ⟨rfl, nofun⟩
  · exact ⟨rfl, id⟩

theorem raiseClass (hs : HoldoverUnless b s) (c : Carrier) (k : Cause) (q : WakeClass) :
    HoldoverUnless b (s.raiseClass c k q) := by
  refine hs.of_grants (raiseClass_addsGrants s c k q) (by rw [(raiseClass_changes s c k q).timer]) (.of_records fun d => ?_)
  rw [raiseClass_carrier]
  split
  · next e => subst e; exact ⟨rfl, id⟩
  · exact ⟨rfl, id⟩

theorem readyLost (hs : HoldoverUnless b s) (c : Carrier) : HoldoverUnless b (s.readyLost c) := by
  refine hs.of_grants (readyLost_addsGrants s c) (by rw [(readyLost_changes s c).timer]) (.of_records fun d => ?_)
  rw [readyLost_carrier]
  split
  · next e => subst e; exact ⟨enter_values _ _ _, nofun⟩
  · split
    · exact ⟨woken_values _ _, by rw [woken_awake]; nofun⟩
    · exact ⟨rfl, id⟩

end HoldoverUnless

/-- After a fail-safe cause every capacity carrier is awake (R20). -/
theorem takeFailSafe_awake (s : State) (f : FailSafe) : Awake (s.takeFailSafe f) := by
  have values : ∀ d, ((s.takeFailSafe f).carrier d).values = (s.carrier d).values := by
    intro d
    rw [takeFailSafe_carrier]
    split
    · rw [woken_values]
    · rfl
  intro c hc
  have capacity : s.isCapacity c = true := by simpa only [State.isCapacity, values] using hc
  rw [takeFailSafe_carrier, if_pos capacity, woken_awake]

theorem takeFailSafe_addsGrants (s : State) (f : FailSafe) : AddsGrants s (s.takeFailSafe f) := wakeAll_addsGrants s _ _ _

/-- An application brings no sleeper about: a busy carrier keeps its presence and role (R142). -/
theorem AppliedAt.noSleeper {s t : State} {w : Policy} (h : AppliedAt s (clampPolicy w) carriers t) (hv : validate s w = none) :
    NoSleeper s t := by
  intro c hc sleeps
  obtain ⟨-, slept⟩ := h.sleeping sleeps
  have same := sameStructure_of_busy hv (busy_of_sleeping slept)
  exact ⟨by simpa only [State.isCapacity, h.values, same.present, same.role] using hc, slept⟩

theorem takeGeneration_noSleeper (s : State) : NoSleeper s s.takeGeneration := by
  rw [State.takeGeneration]
  split
  · split
    · exact .of_frame (refuseGeneration_changes s _ _)
    · next h => exact (applyGeneration_appliedAt h).noSleeper h
  · exact .of_records fun _ => ⟨rfl, id⟩

namespace HoldoverUnless

variable {b : Prop} {s : State}

/-- The HOLDOVER cause taken where no DRAIN can come: the law holds. -/
theorem takeCause (h : s.timer.state = .holdover → ∀ d ∈ s.due, d.mayDrain = false) (f : FailSafe) :
    HoldoverUnless b (s.takeFailSafe f) := by
  intro ht
  rw [(takeFailSafe_changes s f).timer] at ht
  exact ⟨fun d hd => (takeFailSafe_addsGrants s f).mayDrain (h ht) hd, .inr (.inr (takeFailSafe_awake s f))⟩

theorem takeGeneration (hs : HoldoverUnless b s) : HoldoverUnless b s.takeGeneration := by
  intro ht
  have stands := (timerStands_stable s.timer.slot s.timer.state).takeGeneration ⟨rfl, rfl⟩
  obtain ⟨drains, woken⟩ := hs (stands.2.symm.trans ht)
  obtain ⟨l, hl, hm⟩ := takeGeneration_due s
  rw [hl]
  exact ⟨fun d hd => (List.mem_append.mp hd).elim (drains d) (hm d),
    woken.imp_right fun w => w.imp (List.mem_append_left l) (takeGeneration_noSleeper s).awake⟩

/-- A sleeper stays one through a transition between sleep states. -/
theorem ops (b : Prop) : CarrierOps (· ≠ .holdover) (HoldoverUnless b) where
  locked := by simp
  neutral s t hc _ hd ht hs := hs.of_grants (.of_due hd) ht (.of_records fun c => by simp [State.carrier, hc])
  leaves _ _ h _ ht := absurd ht h
  record s c r hst hv _ hs := hs.of_grants (s := s) (t := s.setCarrier c r) (.of_due rfl) rfl (.of_records fun d => by
    rw [carrier_setCarrier]
    split
    · next h => subst h; exact ⟨hv, by rw [hst]; exact id⟩
    · exact ⟨rfl, id⟩)
  spacing _ _ hs := hs
  events _ l _ hl cause hs := hs.events l hl cause
  drains _ d hs hd hm ht := by simp [(hs ht).1 d hd] at hm
  attempt _ hs := hs.attempt
  queueCarrier _ c k q _ hs := hs.queueCarrier c k q
  raiseClass _ c k q hs := hs.raiseClass c k q
  toOn _ _ k _ hs := hs.transition k none nofun
  toLight _ _ k h hs := hs.transition k none (fun _ => by rw [h]; rfl)
  toDraining s c k hD _ _ _ ht := by
    rw [(transition_changes s c _ _ _).timer] at ht
    exact absurd ht hD
  toDeep _ _ k h _ hs := hs.transition k none (fun _ => by rw [h]; rfl)
  endWarmup _ _ _ k _ hst hs := hs.endWarmup k hst
  readyLost _ c _ hs := hs.readyLost c
  takeGrant s which c rest h hs := by
    have dropped : HoldoverUnless b { s with due := rest } :=
      hs.events rest (fun _ hd _ => .inl (firstDue_rest h hd)) (fun hm => firstDue_keeps h hm (by simp))
    exact dropped.takeGrant c

theorem takes (b : Prop) : CarrierTakes (· ≠ .holdover) (HoldoverUnless b) where
  toCarrierOps := ops b
  takeHoldover s _ rest h hs := takeCause (s := { s with due := rest }) (fun ht d hd => (hs ht).1 d (firstDue_rest h hd)) _
  takeGeneration _ hs := hs.takeGeneration

/-- In HOLDOVER a tick loss does nothing, so that the events outstanding are taken under the law. -/
theorem takeSteps {next : List Due → Option (Due × List Due)} (hn : ∀ l d rest, next l = some (d, rest) →
    ∃ which, firstDue which l = some (d, rest)) (n : Nat) (hs : HoldoverUnless b s ∧ s.timer.state = .holdover) :
    HoldoverUnless b (takeSteps next n s) ∧ (Machine.takeSteps next n s).timer.state = .holdover := by
  refine takeSteps_keeps (P := fun s => HoldoverUnless b s ∧ s.timer.state = .holdover) (fun t d rest h ht => ?_) n hs
  obtain ⟨which, hw⟩ := hn _ _ _ h
  by_cases hd : d = .tickLoss
  · subst hd
    have none : State.takeTickLoss { t with due := rest } = { t with due := rest } := by
      rw [State.takeTickLoss.eq_def]
      split
      all_goals simp_all
    rw [State.takeDue, none]
    exact ⟨(ops b).drop hw rfl (by simp) ht.1, ht.2⟩
  · have stands := (timerStands_stable t.timer.slot t.timer.state).takeDue (s := { t with due := rest }) d hd ⟨rfl, rfl⟩
    exact ⟨(takes b).takeDue hw hd ht.1, stands.2.trans ht.2⟩

end HoldoverUnless

/-! ### The DRAINs of the boundaries outstanding -/

/-- How many takings an event that may bring a DRAIN still calls for: a boundary, and then its verdict list. -/
def drainSteps : Due → Nat
  | .boundary _ true _ => 2
  | .verdicts _ list => if list.any (fun v => v.kind == .drain) then 1 else 0
  | _ => 0

/-- The takings that the events outstanding call for. -/
def drainsLeft (l : List Due) : Nat := (l.map drainSteps).sum

theorem drainSteps_eq_zero {d : Due} : drainSteps d = 0 ↔ d.mayDrain = false := by
  rw [drainSteps.eq_def]
  split
  · simp [Due.mayDrain]
  · simp [Due.mayDrain]
  · next hb hv =>
    simp only [true_iff]
    cases d <;> simp_all [Due.mayDrain]

theorem drainsLeft_eq_zero {l : List Due} : drainsLeft l = 0 ↔ ∀ d ∈ l, d.mayDrain = false := by
  simp [drainsLeft, List.sum_eq_zero_iff, drainSteps_eq_zero]

theorem drainSteps_le (d : Due) : drainSteps d ≤ 2 := by
  rw [drainSteps.eq_def]
  split <;> (try split) <;> omega

theorem drainsLeft_le (l : List Due) : drainsLeft l ≤ 2 * l.length := by
  induction l with
  | nil => simp [drainsLeft]
  | cons d l ih =>
    have := drainSteps_le d
    simp only [drainsLeft, List.map_cons, List.sum_cons, List.length_cons] at ih ⊢
    omega

theorem drainsLeft_append (l m : List Due) : drainsLeft (l ++ m) = drainsLeft l + drainsLeft m := by simp [drainsLeft]

theorem drainsLeft_grants (l : List Carrier) : drainsLeft (l.map .grant) = 0 := by
  rw [drainsLeft_eq_zero]
  intro d hd
  obtain ⟨c, -, rfl⟩ := List.mem_map.mp hd
  rfl

theorem drainsLeft_rest {which : Due → Bool} {l : List Due} {d : Due} {rest : List Due} (h : firstDue which l = some (d, rest)) :
    drainsLeft l = drainSteps d + drainsLeft rest := by
  rw [drainsLeft, ((firstDue_perm h).symm.map drainSteps).sum_eq]
  simp [drainsLeft]

theorem applyVerdict_addsGrants (s : State) (v : Verdict) : AddsGrants s (s.applyVerdict v) := by
  have moved : ∀ st k, AddsGrants s (s.transition v.carrier st k none) := fun st k =>
    .of_due (transition_changes s v.carrier st k none).due
  rw [State.applyVerdict]
  split
  · exact ite_keeps (moved _ _) (.refl s)
  · exact ite_keeps (moved _ _) (.refl s)
  · exact moved _ _
  · exact moved _ _
  · exact queueCarrier_addsGrants s _ _ _
  · exact .refl s

/-- A list taken whole hands on grants alone. -/
theorem takeVerdicts_addsGrants (s : State) (fresh : Bool) (list : List Verdict) :
    AddsGrants s (s.takeVerdicts fresh list list.length) := by
  have lowered : AddsGrants s (if fresh then carriers.foldl decrementBackoff s else s) := by
    split
    · exact .foldl (fun t c => .of_due (decrementBackoff_changes t c).due) carriers s
    · exact .refl s
  rw [State.takeVerdicts]
  simp only [lt_irrefl, if_false]
  exact lowered.trans (.foldl applyVerdict_addsGrants _ _)

/-- A boundary hands on its verdict list, if anything (R88). -/
theorem takeBoundary_due (s : State) (w : Word32) (clean : Bool) :
    (s.takeBoundary w clean).due = s.due ∨ ∃ list, (s.takeBoundary w clean).due = s.due ++ [.verdicts true list] := by
  have reported := reportLatchedFault_changes s w
  rw [State.takeBoundary, (rewriteStatus_changes _ w).due, State.runProcedure]
  split
  · exact .inl reported.due
  · next p _ =>
    refine .inr ⟨verdictSteps p (measureAll p (s.reportLatchedFault w)) clean, ?_⟩
    rw [← reported.due, ← (measureAll_changes (s.reportLatchedFault w) p).due]
    rfl

/-- Each taking of an event that may bring a DRAIN leaves fewer to be taken. -/
theorem takeDrain_less {s : State} {d : Due} (h : d.mayDrain = true) :
    drainsLeft (s.takeDue d).due < drainSteps d + drainsLeft s.due := by
  cases d with
  | boundary w clean locked =>
    obtain rfl : clean = true := h
    have le : drainsLeft (s.takeBoundary w true).due ≤ drainsLeft s.due + 1 := by
      obtain hd | ⟨list, hd⟩ := takeBoundary_due s w true
      · rw [hd]; omega
      · rw [hd, drainsLeft_append]
        simp only [drainsLeft, List.map_cons, List.map_nil, List.sum_cons, List.sum_nil, drainSteps]
        split <;> omega
    simp only [State.takeDue, drainSteps]
    omega
  | verdicts fresh list =>
    obtain ⟨l, hl⟩ := takeVerdicts_addsGrants s fresh list
    have one : drainSteps (.verdicts fresh list) = 1 := if_pos h
    rw [State.takeDue, hl, drainsLeft_append, drainsLeft_grants, one]
    omega
  | _ => cases h

/-- The takings are enough: no event is left that may bring a DRAIN (R100; log entry 37). -/
theorem takeDrains_none (s : State) : ∀ d ∈ s.takeDrains.due, d.mayDrain = false := by
  have enough : ∀ (n : Nat) (t : State), drainsLeft t.due ≤ n →
      drainsLeft (takeSteps (firstDue Due.mayDrain) n t).due = 0 := by
    intro n
    induction n with
    | zero => exact fun t h => Nat.le_zero.mp h
    | succ n ih =>
      intro t h
      rw [takeSteps]
      split
      · next hn => exact drainsLeft_eq_zero.mpr (firstDue_eq_none.mp hn)
      · next d rest hd =>
        have less := takeDrain_less (s := { t with due := rest }) (firstDue_picks hd)
        have left := drainsLeft_rest hd
        exact ih _ (by simp only at less; omega)
  exact drainsLeft_eq_zero.mp (enough _ s (drainsLeft_le _))

/-! ### Every step -/

theorem nextDue_picks {wait : Bool} {l : List Due} {d : Due} {rest : List Due} (h : nextDue wait l = some (d, rest)) :
    ∃ which, firstDue which l = some (d, rest) := by
  obtain ⟨-, hw⟩ | ⟨-, hw, -⟩ := nextDue_cases h
  · exact hw
  · exact ⟨_, hw⟩

theorem enterHoldover_state (s : State) : s.enterHoldover.timer.state = .holdover := by
  rw [State.enterHoldover, (hand_changes _ _).timer]

/-- TICK_LOSS brings the law about: the events that may bring a DRAIN are taken, and the cause is taken or outstanding. -/
theorem takeHoldoverCause_law (s : State) (cause : HoldoverOrder) (wait : Bool) :
    HoldoverUnless False (s.enterHoldover.takeHoldoverCause cause wait) := by
  have vacuous : HoldoverUnless True s.enterHoldover.takeDrains := fun _ => ⟨takeDrains_none _, .inl trivial⟩
  have state : s.enterHoldover.takeDrains.timer.state = .holdover := by
    have stands := timerStands_stable s.enterHoldover.timer.slot .holdover
    refine (takeSteps_keeps (P := fun t => t.timer.slot = _ ∧ t.timer.state = .holdover) (fun t d rest h ht => ?_) _
      ⟨rfl, enterHoldover_state s⟩).2
    refine stands.takeDue d ?_ (stands.due t rest ht)
    rintro rfl
    exact absurd (firstDue_picks h) (by decide)
  have drains := (vacuous state).1
  rw [State.takeHoldoverCause.eq_def]
  dsimp only
  generalize s.enterHoldover.takeDrains = u at vacuous state drains
  cases cause with
  | beforeOutstanding =>
    have taken : HoldoverUnless False (u.takeFailSafe .holdover) := .takeCause (fun _ => drains) _
    exact (HoldoverUnless.takeSteps (fun _ _ _ => nextDue_picks) _
      ⟨taken, by rw [(takeFailSafe_changes u _).timer, state]⟩).1
  | afterOutstanding =>
    have handed : HoldoverUnless False (u.addDue (.failSafe .holdover)) := fun _ =>
      ⟨fun d hd => (List.mem_append.mp hd).elim (drains d) (fun h => by obtain rfl := List.mem_singleton.mp h; rfl),
        .inr (.inl (by simp [State.addDue]))⟩
    exact (HoldoverUnless.takeSteps (fun _ _ _ => nextDue_picks) _ ⟨handed, state⟩).1
  | afterLocalTick =>
    obtain ⟨settled, hold⟩ := HoldoverUnless.takeSteps (next := nextDue wait) (fun _ _ _ => nextDue_picks) (4 * u.due.length + 300)
      ⟨vacuous, state⟩
    exact fun _ =>
      ⟨fun d hd => (List.mem_append.mp hd).elim ((settled hold).1 d) (fun h => by obtain rfl := List.mem_singleton.mp h; rfl),
        .inr (.inl (by simp [State.addDue]))⟩

theorem holdoverLaw_law : CarrierLaw (· ≠ .holdover) (HoldoverUnless False) where
  toCarrierTakes := HoldoverUnless.takes False
  enterHoldover s hd _ := by
    refine HoldoverUnless.takeCause (fun _ d hm => hd d ?_) .holdover
    rwa [(enterHoldover_changes s).due] at hm
  tickLoss s cause wait _ _ := takeHoldoverCause_law s cause wait
  powerOnReset s t b m h _ := by
    cases h
    exact nofun

/-- Settles O59, by two laws of the carriers: an application keeps the sectors of sleepers, and TICK_LOSS takes every event that
may bring a DRAIN. -/
theorem stepKeepsSleepLaw : Obligations.StepKeepsSleepLaw := by
  refine ⟨fun s t hs h => SleepLaw.blind.invariant.step h hs, fun s t hs h => ?_⟩
  rw [holdoverLaw_iff] at hs ⊢
  exact holdoverLaw_law.invariant.step h hs

end Sys2Proof.Machine
end

section
/-! PROOF. The laws of the wake queue and of the budget (R115, R116, R118, R126), which the steps keep together. -/

namespace Sys2Proof.Machine

/-! ### The order of the queue (R118) -/

theorem ahead_iff (e f : WakeEntry) : e.ahead f = true ↔
    e.cls.rank < f.cls.rank ∨ (e.cls.rank = f.cls.rank ∧ e.ordinal < f.ordinal) := by
  simp [WakeEntry.ahead]

theorem ahead_trans {e f g : WakeEntry} (h : e.ahead f = true) (k : f.ahead g = true) : e.ahead g = true := by
  rw [ahead_iff] at *
  omega

/-- Of two entries with different ordinals one stands ahead. -/
theorem ahead_of_not {e f : WakeEntry} (h : ¬e.ahead f = true) (hne : e.ordinal ≠ f.ordinal) : f.ahead e = true := by
  rw [ahead_iff] at *
  omega

/-- An entry placed by its class and ordinal keeps the order. -/
theorem placeEntry_pairwise {e : WakeEntry} {l : List WakeEntry} (hl : l.Pairwise (fun e f => e.ahead f = true))
    (hne : ∀ f ∈ l, e.ordinal ≠ f.ordinal) : (placeEntry e l).Pairwise (fun e f => e.ahead f = true) := by
  induction l with
  | nil => simp [placeEntry]
  | cons f l ih =>
    obtain ⟨hf, hl'⟩ := List.pairwise_cons.mp hl
    rw [placeEntry]
    split
    · next h =>
      refine List.pairwise_cons.mpr ⟨fun g hg => ?_, hl⟩
      obtain rfl | hg := List.mem_cons.mp hg
      · exact h
      · exact ahead_trans h (hf g hg)
    · next h =>
      refine List.pairwise_cons.mpr ⟨fun g hg => ?_, ih hl' (fun g hg => hne g (List.mem_cons_of_mem f hg))⟩
      obtain rfl | hg := List.mem_cons.mp ((placeEntry_perm e l).subset hg)
      · exact ahead_of_not h (hne f List.mem_cons_self)
      · exact hf g hg

namespace QueueOrder

variable {a : WarmupArbiter}

/-- Entries leave the queue in order. -/
theorem erase (h : QueueOrder a) (e : WakeEntry) (charged : List (Carrier × Nat)) (n : Nat) :
    QueueOrder { a with queue := a.queue.erase e, charged := charged, spacing := n } :=
  ⟨h.1.sublist List.erase_sublist, h.2.1.sublist (List.erase_sublist.map _), fun f hf => h.2.2 f (List.mem_of_mem_erase hf)⟩

/-- A new entry takes the next ordinal (R117). -/
theorem enqueue (h : QueueOrder a) {e : WakeEntry} (he : e.ordinal = a.ordinal + 1) :
    QueueOrder { a with ordinal := a.ordinal + 1, queue := placeEntry e a.queue } := by
  obtain ⟨sorted, ordinals, most⟩ := h
  have new : ∀ f ∈ a.queue, e.ordinal ≠ f.ordinal := fun f hf => by have := most f hf; omega
  have perm := placeEntry_perm e a.queue
  refine ⟨placeEntry_pairwise sorted new, ?_, fun f hf => ?_⟩
  · refine (perm.map WakeEntry.ordinal).nodup_iff.mpr (List.nodup_cons.mpr ⟨fun hm => ?_, ordinals⟩)
    obtain ⟨f, hf, heq⟩ := List.mem_map.mp hm
    exact new f hf heq.symm
  · obtain rfl | hf := List.mem_cons.mp (perm.subset hf)
    · exact he.le
    · exact (most f hf).trans (Nat.le_succ _)

/-- A raised entry keeps its ordinal and takes its place in its new class (R119). -/
theorem raise (h : QueueOrder a) {e : WakeEntry} (he : e ∈ a.queue) (q : WakeClass) :
    QueueOrder { a with queue := placeEntry { e with cls := q } (a.queue.erase e) } := by
  obtain ⟨sorted, ordinals, most⟩ := h
  have perm := placeEntry_perm { e with cls := q } (a.queue.erase e)
  have all : ((e :: a.queue.erase e).map WakeEntry.ordinal).Nodup :=
    ((List.perm_cons_erase he).map WakeEntry.ordinal).nodup_iff.mp ordinals
  obtain ⟨out, rest⟩ := List.nodup_cons.mp all
  refine ⟨placeEntry_pairwise (sorted.sublist List.erase_sublist) (fun f hf heq => out (heq ▸ List.mem_map_of_mem hf)), ?_,
    fun f hf => ?_⟩
  · exact (perm.map WakeEntry.ordinal).nodup_iff.mpr all
  · obtain rfl | hf := List.mem_cons.mp (perm.subset hf)
    · exact most e he
    · exact most f (List.mem_of_mem_erase hf)

end QueueOrder

/-! ### The two laws together -/

/-- The carriers that wait: those with an entry, and those with a grant outstanding (R116). -/
def State.waitingCarriers (s : State) : List Carrier := s.arbiter.queue.map WakeEntry.carrier ++ grantsOutstanding s.due

/-- The law of the wake queue, part by part, and with it where `b` holds the law of the budget. -/
structure QueueLaw (b : Prop) (s : State) : Prop where
  order : QueueOrder s.arbiter
  once : s.waitingCarriers.Nodup
  queued : ∀ c : Carrier, (s.carrier c).state = .queued ↔ c ∈ s.waitingCarriers
  cls : ∀ e ∈ s.arbiter.queue, (s.carrier e.carrier).queuedClass = some e.cls
  classed : ∀ c : Carrier, (s.carrier c).queuedClass.isSome = true ↔ (s.carrier c).state = .queued
  chargedOnce : b → (s.arbiter.charged.map Prod.fst).Nodup
  charged : b → ∀ c : Carrier, c ∈ s.arbiter.charged.map Prod.fst ↔ (s.carrier c).state = .warming ∨ c ∈ grantsOutstanding s.due

theorem queueLaw_iff (s : State) : QueueLaw True s ↔ WakeLaw s ∧ BudgetLaw s :=
  ⟨fun h => ⟨⟨h.order, h.once, h.queued, h.cls, h.classed⟩, h.chargedOnce trivial, h.charged trivial⟩,
    fun ⟨⟨a, b, c, d, e⟩, f, g⟩ => ⟨a, b, c, d, e, fun _ => f, fun _ => g⟩⟩

theorem wakeLaw_iff (s : State) : QueueLaw False s ↔ WakeLaw s :=
  ⟨fun h => ⟨h.order, h.once, h.queued, h.cls, h.classed⟩, fun ⟨a, b, c, d, e⟩ => ⟨a, b, c, d, e, nofun, nofun⟩⟩

namespace QueueLaw

variable {b : Prop} {s t : State} (hs : QueueLaw b s)
include hs

/-- What leaves the states and classes of the carriers, the arbiter and the grants outstanding. -/
theorem congr (records : ∀ c, (t.carrier c).state = (s.carrier c).state ∧ (t.carrier c).queuedClass = (s.carrier c).queuedClass)
    (queue : t.arbiter.queue = s.arbiter.queue) (ordinal : t.arbiter.ordinal = s.arbiter.ordinal)
    (charged : t.arbiter.charged = s.arbiter.charged) (grants : grantsOutstanding t.due = grantsOutstanding s.due) :
    QueueLaw b t where
  order := by
    obtain ⟨a, b, c⟩ := hs.order
    exact ⟨by rw [queue]; exact a, by rw [queue]; exact b, by rw [queue, ordinal]; exact c⟩
  once := by rw [State.waitingCarriers, queue, grants]; exact hs.once
  queued c := by rw [State.waitingCarriers, queue, grants, (records c).1]; exact hs.queued c
  cls e he := by rw [(records _).2]; exact hs.cls e (queue ▸ he)
  classed c := by rw [(records c).1, (records c).2]; exact hs.classed c
  chargedOnce hb := by rw [charged]; exact hs.chargedOnce hb
  charged hb c := by rw [charged, grants, (records c).1]; exact hs.charged hb c

theorem queuedClass_none {c : Carrier} (h : (s.carrier c).state ≠ .queued) : (s.carrier c).queuedClass = none := by
  rw [← Option.not_isSome_iff_eq_none, hs.classed c]
  exact h

/-! ### Grants -/

/-- A grant made keeps the laws: the entry becomes a grant outstanding, and is charged (R123). -/
theorem makeGrant {e : WakeEntry} (he : e ∈ s.arbiter.queue) : QueueLaw b (s.makeGrant e) := by
  have grants : grantsOutstanding (s.makeGrant e).due = grantsOutstanding s.due ++ [e.carrier] := grantsOutstanding_append _ _
  have entries : (s.arbiter.queue.map WakeEntry.carrier).Perm (e.carrier :: (s.arbiter.queue.erase e).map WakeEntry.carrier) :=
    (List.perm_cons_erase he).map WakeEntry.carrier
  have perm : (s.makeGrant e).waitingCarriers.Perm s.waitingCarriers := by
    rw [State.waitingCarriers, State.waitingCarriers, grants, ← List.append_assoc]
    exact (List.perm_append_singleton _ _).trans (entries.append_right _).symm
  have waits : e.carrier ∈ s.waitingCarriers := List.mem_append_left _ (List.mem_map_of_mem he)
  have queued := (hs.queued _).mpr waits
  have ungranted : e.carrier ∉ grantsOutstanding s.due := by
    have := hs.once
    rw [State.waitingCarriers, List.nodup_append] at this
    exact fun hm => this.2.2 _ (List.mem_map_of_mem he) _ hm rfl
  have uncharged : b → e.carrier ∉ s.arbiter.charged.map Prod.fst := fun hb => by
    rw [hs.charged hb, queued]
    simp [ungranted]
  have charged : (s.makeGrant e).arbiter.charged.map Prod.fst = s.arbiter.charged.map Prod.fst ++ [e.carrier] := by
    simp [State.makeGrant]
  exact
    { order := hs.order.erase e _ _
      once := perm.nodup_iff.mpr hs.once
      queued := fun c => (hs.queued c).trans perm.mem_iff.symm
      cls := fun f hf => hs.cls f (List.mem_of_mem_erase hf)
      classed := hs.classed
      chargedOnce := fun hb => by
        rw [charged]
        exact List.nodup_append.mpr ⟨hs.chargedOnce hb, by simp, by
          intro a ha c hc; obtain rfl := List.mem_singleton.mp hc; rintro rfl; exact uncharged hb ha⟩
      charged := fun hb c => by
        rw [charged, grants, List.mem_append, List.mem_append, hs.charged hb c, or_assoc]; rfl }

theorem attempts (n : Nat) : QueueLaw b (attempts n s) := by
  induction n generalizing s with
  | zero => exact hs
  | succ n ih =>
    rw [Machine.attempts]
    split
    · exact hs
    · next e he =>
      split
      · exact ih (hs.makeGrant (List.mem_of_find?_eq_some he))
      · exact hs

theorem attempt : QueueLaw b s.attempt := hs.attempts _

/-! ### Transitions -/

/-- A transition between states that are neither QUEUED nor WARMING. -/
theorem transition {c : Carrier} {st : CarrierState} (k : Cause)
    (left : (s.carrier c).state ≠ .queued ∧ (s.carrier c).state ≠ .warming) (entered : st ≠ .queued ∧ st ≠ .warming) :
    QueueLaw b (s.transition c st k none) := by
  have changes := transition_changes s c st k none
  have none := hs.queuedClass_none left.1
  have cls : ((s.carrier c).enter st Option.none).queuedClass = Option.none := by
    cases st <;> simp_all [CarrierRecord.enter, CarrierRecord.vacant]
  have queued : ∀ d, ((s.transition c st k Option.none).carrier d).state = .queued ↔ (s.carrier d).state = .queued := by
    intro d
    rw [transition_carrier]
    split
    · next e => subst e; rw [enter_state]; simp [left.1, entered.1]
    · rfl
  have warming : ∀ d, ((s.transition c st k Option.none).carrier d).state = .warming ↔ (s.carrier d).state = .warming := by
    intro d
    rw [transition_carrier]
    split
    · next e => subst e; rw [enter_state]; simp [left.2, entered.2]
    · rfl
  have same : ∀ d, ((s.transition c st k Option.none).carrier d).queuedClass = (s.carrier d).queuedClass := by
    intro d
    rw [transition_carrier]
    split
    · next e => subst e; rw [cls, none]
    · rfl
  exact
    { order := by rw [changes.arbiter]; exact hs.order
      once := by rw [State.waitingCarriers, changes.arbiter, changes.due]; exact hs.once
      queued := fun d => by rw [queued, State.waitingCarriers, changes.arbiter, changes.due]; exact hs.queued d
      cls := fun e he => by rw [same]; exact hs.cls e (changes.arbiter ▸ he)
      classed := fun d => by rw [queued, same]; exact hs.classed d
      chargedOnce := by rw [changes.arbiter]; exact hs.chargedOnce
      charged := fun hb d => by rw [changes.arbiter, changes.due, warming]; exact hs.charged hb d }

/-- A carrier queued from a state that is neither QUEUED nor WARMING gets an entry with the next ordinal (R18, R117). -/
theorem queueCarrier {c : Carrier} (k : Cause) (q : WakeClass)
    (left : (s.carrier c).state ≠ .queued ∧ (s.carrier c).state ≠ .warming) : QueueLaw b (s.queueCarrier c k q) := by
  have changes := transition_changes s c .queued k (some q)
  have out : c ∉ s.waitingCarriers := fun h => left.1 ((hs.queued c).mpr h)
  obtain ⟨unqueued, ungranted⟩ : c ∉ s.arbiter.queue.map WakeEntry.carrier ∧ c ∉ grantsOutstanding s.due := by
    simpa [State.waitingCarriers] using out
  rw [State.queueCarrier, State.enqueue]
  refine QueueLaw.attempt ?_
  rw [changes.arbiter]
  have perm := placeEntry_perm { carrier := c, cls := q, ordinal := s.arbiter.ordinal + 1 } s.arbiter.queue
  have waits : ((placeEntry { carrier := c, cls := q, ordinal := s.arbiter.ordinal + 1 } s.arbiter.queue).map WakeEntry.carrier
      ++ grantsOutstanding (s.transition c .queued k (some q)).due).Perm (c :: s.waitingCarriers) := by
    rw [changes.due]
    exact (perm.map WakeEntry.carrier).append_right _
  have record : ∀ d, (s.transition c .queued k (some q)).carrier d =
      if c = d then { s.carrier c with state := .queued, queuedClass := some q } else s.carrier d :=
    fun d => transition_carrier s c d .queued k (some q)
  exact
    { order := hs.order.enqueue rfl
      once := waits.nodup_iff.mpr (List.nodup_cons.mpr ⟨out, hs.once⟩)
      queued := fun d => by
        refine Iff.trans ?_ waits.mem_iff.symm
        show ((s.transition c .queued k (some q)).carrier d).state = .queued ↔ _
        rw [record, List.mem_cons, ← hs.queued d]
        by_cases e : c = d
        · simp [e]
        · simp [e, Ne.symm e]
      cls := fun e he => by
        show ((s.transition c .queued k (some q)).carrier e.carrier).queuedClass = _
        rw [record]
        obtain rfl | he := List.mem_cons.mp (perm.subset he)
        · simp
        · rw [if_neg (fun h : c = e.carrier => unqueued (by rw [h]; exact List.mem_map_of_mem he))]
          exact hs.cls e he
      classed := fun d => by
        show ((s.transition c .queued k (some q)).carrier d).queuedClass.isSome = true
          ↔ ((s.transition c .queued k (some q)).carrier d).state = .queued
        rw [record]
        split
        · simp
        · exact hs.classed d
      chargedOnce := hs.chargedOnce
      charged := fun hb d => by
        show d ∈ s.arbiter.charged.map Prod.fst ↔ ((s.transition c .queued k (some q)).carrier d).state = .warming
          ∨ d ∈ grantsOutstanding (s.transition c .queued k (some q)).due
        rw [hs.charged hb, record, changes.due]
        split
        · next e => subst e; simp [left.2]
        · rfl }

/-- A raise changes the class of the carrier's record and of its entry, if it has one (R19, R119). -/
theorem raiseClass (c : Carrier) (k : Cause) (q : WakeClass) : QueueLaw b (s.raiseClass c k q) := by
  rw [State.raiseClass]
  split
  · exact hs
  · next old hold =>
    split
    · have queued : (s.carrier c).state = .queued := (hs.classed c).mp (by rw [hold]; rfl)
      have state : ∀ d, ((s.setCarrier c { s.carrier c with queuedClass := some q }).carrier d).state = (s.carrier d).state := by
        intro d
        rw [carrier_setCarrier]
        split
        · next e => rw [e]
        · rfl
      have classed : ∀ d, ((s.setCarrier c { s.carrier c with queuedClass := some q }).carrier d).queuedClass.isSome = true
          ↔ ((s.setCarrier c { s.carrier c with queuedClass := some q }).carrier d).state = .queued := by
        intro d
        rw [state, carrier_setCarrier]
        split
        · next e => subst e; simp [queued]
        · exact hs.classed d
      have others : ∀ e : WakeEntry, e ∈ s.arbiter.queue → e.carrier ≠ c →
          ((s.setCarrier c { s.carrier c with queuedClass := some q }).carrier e.carrier).queuedClass = some e.cls := by
        intro e he hne
        rw [carrier_setCarrier, if_neg (Ne.symm hne)]
        exact hs.cls e he
      rw [State.raiseEntry]
      split
      · next hn =>
        have none : ∀ e ∈ s.arbiter.queue, e.carrier ≠ c := by
          intro e he
          simpa using List.find?_eq_none.mp hn e he
        exact
          { order := hs.order
            once := hs.once
            queued := fun d => (by rw [← state d]; rfl : _ ↔ _).trans (hs.queued d)
            cls := fun e he => others e he (none e he)
            classed := classed
            chargedOnce := hs.chargedOnce
            charged := fun hb d => (hs.charged hb d).trans (or_congr_left (by rw [← state d]; rfl)) }
      · next e hfound =>
        have mem : e ∈ s.arbiter.queue := List.mem_of_find?_eq_some hfound
        have own : e.carrier = c := by simpa using List.find?_some hfound
        have perm := placeEntry_perm { e with cls := q } (s.arbiter.queue.erase e)
        have carriersSame : ((placeEntry { e with cls := q } (s.arbiter.queue.erase e)).map WakeEntry.carrier).Perm
            (s.arbiter.queue.map WakeEntry.carrier) :=
          (perm.map WakeEntry.carrier).trans ((List.perm_cons_erase mem).map WakeEntry.carrier).symm
        have waits := carriersSame.append_right (grantsOutstanding s.due)
        have alone : c ∉ (s.arbiter.queue.erase e).map WakeEntry.carrier := by
          have := ((List.perm_cons_erase mem).map WakeEntry.carrier).nodup_iff.mp (List.nodup_append.mp hs.once).1
          rw [← own]
          exact (List.nodup_cons.mp this).1
        refine QueueLaw.attempt ?_
        exact
          { order := hs.order.raise mem q
            once := waits.nodup_iff.mpr hs.once
            queued := fun d => (by rw [← state d]; rfl : _ ↔ _).trans ((hs.queued d).trans waits.mem_iff.symm)
            cls := fun f hf => by
              obtain rfl | hf := List.mem_cons.mp (perm.subset hf)
              · show ((s.setCarrier c _).carrier e.carrier).queuedClass = some q
                rw [own, carrier_setCarrier_same]
              · exact others f (List.mem_of_mem_erase hf) (fun h => alone (h ▸ List.mem_map_of_mem hf))
            classed := classed
            chargedOnce := hs.chargedOnce
            charged := fun hb d => (hs.charged hb d).trans (or_congr_left (by rw [← state d]; rfl)) }
    · exact hs

/-- The end of a warm-up releases the weight charged (R133). -/
theorem endWarmup {c : Carrier} {st : CarrierState} (k : Cause) (warming : (s.carrier c).state = .warming)
    (hst : st = .on ∨ st = .faulted) : QueueLaw b (s.endWarmup c st k) := by
  have grants : grantsOutstanding (s.dropExpiry c).due = grantsOutstanding s.due := grantsOutstanding_filter fun _ => rfl
  have out : c ∉ grantsOutstanding s.due := fun h => by
    have := (hs.queued c).mpr (List.mem_append_right _ h)
    rw [warming] at this; cases this
  rw [endWarmup_eq]
  refine QueueLaw.attempt ?_
  have due : grantsOutstanding (s.endedWarmup c st k).due = grantsOutstanding s.due := by rw [endedWarmup_due]; exact grants
  have record := endedWarmup_carrier s c
  have queued : ∀ d, ((s.endedWarmup c st k).carrier d).state = .queued ↔ (s.carrier d).state = .queued := by
    intro d
    rw [record]
    split
    · next e => subst e; rw [enter_state, warming]; obtain rfl | rfl := hst <;> simp
    · rfl
  have cls : ∀ d, ((s.endedWarmup c st k).carrier d).queuedClass = (s.carrier d).queuedClass := by
    intro d
    rw [record]
    split
    · next e => subst e; obtain rfl | rfl := hst <;> rfl
    · rfl
  have charged : ∀ d, d ∈ (s.endedWarmup c st k).arbiter.charged.map Prod.fst ↔ d ∈ s.arbiter.charged.map Prod.fst ∧ d ≠ c := by
    intro d
    simp only [State.endedWarmup, List.mem_map, List.mem_filter, bne_iff_ne, ne_eq, Prod.exists, exists_and_right,
      exists_eq_right]
  exact
    { order := hs.order
      once := by rw [State.waitingCarriers, due]; exact hs.once
      queued := fun d => by rw [queued, State.waitingCarriers, due]; exact hs.queued d
      cls := fun e he => by rw [cls]; exact hs.cls e he
      classed := fun d => by rw [queued, cls]; exact hs.classed d
      chargedOnce := fun hb => (hs.chargedOnce hb).sublist (List.filter_sublist.map _)
      charged := fun hb d => by
        rw [charged, hs.charged hb, due, record]
        by_cases e : c = d
        · subst e; rw [if_pos rfl, enter_state]; obtain rfl | rfl := hst <;> simp [out]
        · simp [e, Ne.symm e] }

/-- A grant taken: the carrier enters WARMING, its weight charged as it was (R26). -/
theorem grantTaken {which : Due → Bool} {c : Carrier} {rest : List Due} (h : firstDue which s.due = some (.grant c, rest)) :
    (s.carrier c).state = .queued ∧ QueueLaw b (State.transition { s with due := rest } c .warming .grant none) := by
  have grants : (grantsOutstanding s.due).Perm (c :: grantsOutstanding rest) := by
    show (grantsOutstanding s.due).Perm (grantsOutstanding (.grant c :: rest))
    exact (firstDue_perm h).symm.filterMap _
  have waits : s.waitingCarriers.Perm (c :: (s.arbiter.queue.map WakeEntry.carrier ++ grantsOutstanding rest)) :=
    (grants.append_left _).trans List.perm_middle
  obtain ⟨out, once⟩ := List.nodup_cons.mp (waits.nodup_iff.mp hs.once)
  have queued : (s.carrier c).state = .queued := (hs.queued c).mpr (waits.mem_iff.mpr List.mem_cons_self)
  refine ⟨queued, ?_⟩
  have changes := transition_changes ({ s with due := rest } : State) c .warming .grant none
  have record : ∀ d, (State.transition { s with due := rest } c .warming .grant none).carrier d =
      if c = d then (s.carrier c).enter .warming none else s.carrier d :=
    fun d => transition_carrier ({ s with due := rest } : State) c d .warming .grant none
  generalize State.transition { s with due := rest } c .warming .grant none = t at changes record
  have waitsAfter : t.waitingCarriers = s.arbiter.queue.map WakeEntry.carrier ++ grantsOutstanding rest := by
    rw [State.waitingCarriers, changes.arbiter, changes.due]
  have state : ∀ d, (t.carrier d).state = .queued ↔ (s.carrier d).state = .queued ∧ d ≠ c := by
    intro d
    rw [record]
    split
    · next e => subst e; simp [enter_state]
    · next e => simp [Ne.symm e]
  exact
    { order := by rw [changes.arbiter]; exact hs.order
      once := waitsAfter ▸ once
      queued := fun d => by
        rw [state, hs.queued, waits.mem_iff, List.mem_cons, waitsAfter]
        constructor
        · rintro ⟨rfl | hd, hne⟩
          · exact absurd rfl hne
          · exact hd
        · exact fun hd => ⟨.inr hd, fun e => out (e ▸ hd)⟩
      cls := fun e he => by
        rw [changes.arbiter] at he
        have hne : c ≠ e.carrier := fun h' => out (by rw [h']; exact List.mem_append_left _ (List.mem_map_of_mem he))
        rw [record, if_neg hne]
        exact hs.cls e he
      classed := fun d => by
        rw [state, ← hs.classed, record]
        split
        · next e => subst e; simp [CarrierRecord.enter]
        · next e => simp [Ne.symm e]
      chargedOnce := by rw [changes.arbiter]; exact hs.chargedOnce
      charged := fun hb d => by
        rw [changes.arbiter, changes.due]
        show d ∈ s.arbiter.charged.map Prod.fst ↔ _ ∨ d ∈ grantsOutstanding rest
        rw [hs.charged hb, grants.mem_iff, List.mem_cons, record]
        by_cases e : c = d
        · subst e; simp [enter_state]
        · simp [e, Ne.symm e] }

theorem takeGrant {which : Due → Bool} {c : Carrier} {rest : List Due} (h : firstDue which s.due = some (.grant c, rest)) :
    QueueLaw b (State.takeGrant { s with due := rest } c) := by
  obtain ⟨queued, warming⟩ := hs.grantTaken h
  have found : (State.carrier { s with due := rest } c).state = .queued := queued
  rw [State.takeGrant, found]
  dsimp only
  split
  · exact warming.endWarmup _ (by rw [transition_carrier_same, enter_state]) (.inl rfl)
  · exact warming

end QueueLaw

/-! ### Wakes and applications -/

theorem QueueLaw.wakes (b : Prop) : CarrierWakes (QueueLaw b) where
  queueCarrier _ _ k q h hs := hs.queueCarrier k q (by simp [h])
  raiseClass _ c k q hs := hs.raiseClass c k q
  toOn _ _ k h hs := hs.transition k (by obtain h | h := h <;> simp [h]) (by simp)

namespace QueueLaw

variable {b : Prop} {s : State} (hs : QueueLaw b s)
include hs

theorem readyLost {c : Carrier} (h : (s.carrier c).state.serving = true) : QueueLaw b (s.readyLost c) := by
  have faulted := hs.transition (c := c) (st := .faulted) .readyLost
    (by constructor <;> intro he <;> rw [he] at h <;> cases h) (by simp)
  exact ite_keeps ((QueueLaw.wakes b).wakeAll _ _ _ faulted) faulted

theorem applyCarrier (c : Carrier) (sensed : Bool) : QueueLaw b (s.applyCarrier c sensed) := by
  have figured : ∀ f, QueueLaw b (s.setFigures c f) := fun f => hs.congr (fun _ => ⟨rfl, rfl⟩) rfl rfl rfl rfl
  have withdraw : (s.carrier c).state ≠ .queued ∧ (s.carrier c).state ≠ .warming → QueueLaw b (s.withdraw c) := fun h =>
    (hs.transition .policy h (by simp)).congr (fun _ => ⟨rfl, rfl⟩) rfl rfl rfl rfl
  rw [State.applyCarrier]
  split
  · next h =>
    have absent : (((s.setFigures c .arriving).carrier c).state ≠ .queued
        ∧ ((s.setFigures c .arriving).carrier c).state ≠ .warming) := by
      rw [show (s.setFigures c .arriving).carrier c = s.carrier c from rfl, h]; simp
    refine ite_keeps (ite_keeps ?_ ?_) hs
    · exact (figured _).queueCarrier _ _ absent
    · exact (figured _).transition _ absent (by simp)
  · next h => exact ite_keeps (withdraw (by simp [h])) (ite_keeps (hs.readyLost (by rw [h]; rfl)) hs)
  · next h => exact ite_keeps (withdraw (by simp [h])) (hs.queueCarrier _ _ (by simp [h]))
  all_goals exact hs

theorem controllerTakes (p : Policy) : QueueLaw b (s.controllerTakes p) := by
  have copied : QueueLaw b (s.copyValues p) := by
    have record : ∀ c, (s.copyValues p).carrier c = { s.carrier c with values := p.entries.get c } := fun c => get_tabulate _ c
    exact hs.congr (fun c => by rw [record]; exact ⟨rfl, rfl⟩) rfl rfl rfl rfl
  rw [State.controllerTakes]
  exact (foldl_keeps (P := QueueLaw b) (fun t c ht => QueueLaw.applyCarrier ht c _) carriers copied).attempt

theorem of_frame {t : State} {l : List Part} (h : OnlyChanges s t l)
    (hl : Part.controller ∉ l ∧ Part.arbiter ∉ l ∧ Part.due ∉ l := by decide) : QueueLaw b t := by
  obtain ⟨hc, ha, hd⟩ := hl
  exact hs.congr (fun c => by rw [h.carrier c hc]; exact ⟨rfl, rfl⟩) (by rw [h.arbiter ha]) (by rw [h.arbiter ha])
    (by rw [h.arbiter ha]) (by rw [h.due hd])

theorem timerTakes (n : Nat) : QueueLaw b (s.timerTakes n) := by
  have lost : QueueLaw b (s.addDue .tickLoss) := hs.congr (fun _ => ⟨rfl, rfl⟩) rfl rfl rfl (by simp [State.addDue, grantsOutstanding])
  rw [State.timerTakes.eq_def]
  split
  · exact ite_keeps hs (hs.congr (fun _ => ⟨rfl, rfl⟩) rfl rfl rfl rfl)
  · exact ite_keeps lost hs
  · exact ite_keeps lost hs

theorem takeGeneration : QueueLaw b s.takeGeneration := by
  rw [State.takeGeneration]
  refine ite_keeps ?_ hs
  split
  · exact hs.of_frame (refuseGeneration_changes s _ _)
  · rw [applyGeneration_eq]
    have readied := hs.of_frame (readied_changes s (readPolicy s.loader.mirror))
    exact ((readied.controllerTakes _).timerTakes _).of_frame (heartbeatTakes_changes _ _ _)

end QueueLaw

/-- After a power-on reset no carrier waits and none is charged (R2, R115). -/
theorem QueueLaw.of_vacant {b : Prop} {t : State} (ha : t.arbiter = .reset) (hd : t.due = []) (hc : ∀ c, t.carrier c = .vacant) :
    QueueLaw b t := by
  have waits : t.waitingCarriers = [] := by rw [State.waitingCarriers, ha, hd]; rfl
  exact
    { order := by rw [ha]; exact ⟨.nil, .nil, fun e he => by cases he⟩
      once := by rw [waits]; exact .nil
      queued := fun c => by rw [waits, hc]; simp [CarrierRecord.vacant]
      cls := fun e he => by rw [ha] at he; cases he
      classed := fun c => by rw [hc]; simp [CarrierRecord.vacant]
      chargedOnce := fun _ => by rw [ha]; exact .nil
      charged := fun _ c => by rw [ha, hd, hc]; simp [CarrierRecord.vacant, WarmupArbiter.reset, grantsOutstanding] }

theorem QueueLaw.blind (b : Prop) : BlindLaw (QueueLaw b) where
  toCarrierWakes := QueueLaw.wakes b
  locked := trivial
  neutral _ _ hc ha hd _ hs := hs.congr (fun c => by simp [State.carrier, hc]) (by rw [ha]) (by rw [ha]) (by rw [ha]) (by rw [hd])
  leaves _ _ _ hs := hs.congr (fun _ => ⟨rfl, rfl⟩) rfl rfl rfl rfl
  record s c r hst _ hq hs := hs.congr (t := s.setCarrier c r) (fun d => by
    rw [carrier_setCarrier]
    split
    · next h => subst h; exact ⟨hst, hq⟩
    · exact ⟨rfl, rfl⟩) rfl rfl rfl rfl
  spacing _ _ hs := hs.congr (fun _ => ⟨rfl, rfl⟩) rfl rfl rfl rfl
  events _ _ hg _ _ hs := hs.congr (fun _ => ⟨rfl, rfl⟩) rfl rfl rfl hg
  drains _ _ _ _ _ := trivial
  attempt _ hs := hs.attempt
  toLight _ _ k h hs := hs.transition k (by simp [h]) (by simp)
  toDraining _ _ k _ h _ hs := hs.transition k (by simp [h]) (by simp)
  toDeep _ _ k h _ hs := hs.transition k (by simp [h]) (by simp)
  endWarmup _ _ _ k h hst hs := hs.endWarmup k h hst
  readyLost _ _ h hs := hs.readyLost h
  takeGrant _ _ _ _ h hs := hs.takeGrant h
  clock _ _ hs := hs.congr (fun _ => ⟨rfl, rfl⟩) rfl rfl rfl rfl
  forget _ _ hg hs := hs.congr (fun _ => ⟨rfl, rfl⟩) rfl rfl rfl hg
  takeGeneration _ hs := hs.takeGeneration
  powerOnReset s t b m h _ := by
    cases h
    exact QueueLaw.of_vacant rfl rfl (fun c => get_tabulate _ c)

/-- Settles O60, by the law of the queue and the budget, which every operation at a carrier keeps in the states it is made
from. -/
theorem stepKeepsWakeLaw : Obligations.StepKeepsWakeLaw := by
  intro s t hw hb h
  exact (queueLaw_iff t).mp ((QueueLaw.blind True).invariant.step h ((queueLaw_iff s).mpr ⟨hw, hb⟩))

end Sys2Proof.Machine
end

section
/-! PROOF. The statements about single commands at the carriers, the lines and the resets. -/

namespace Sys2Proof.Machine

/-! ### Every command -/

theorem takeHoldoverCause_changes (s : State) (cause : HoldoverOrder) (wait : Bool) :
    OnlyChanges s (s.takeHoldoverCause cause wait) inner := by
  have drained := takeDrains_changes s
  cases cause with
  | beforeOutstanding =>
    exact drained.trans (((takeFailSafe_changes _ .holdover).mono (by decide)).trans (settle_changes _ wait))
  | afterOutstanding => exact drained.trans (((addDue_changes _ _).mono (by decide)).trans (settle_changes _ wait))
  | afterLocalTick => exact drained.trans ((settle_changes _ wait).trans ((addDue_changes _ _).mono (by decide)))

/-- What a command can change that is not the amplifiers'. -/
theorem exec_changes {i : Instr} {s : State} (h : ∀ c, i ≠ .readyRise c ∧ i ≠ .readyFall c) :
    ∃ t, exec i s = .next t ∧ OnlyChanges s t ports := by
  have settled : OnlyChanges s s.settleAtOnce ports := (settleAtOnce_changes s).mono (by decide)
  have named : ∀ which, OnlyChanges s (s.takeNamed which) ports := fun which => (takeNamed_changes s which).mono (by decide)
  have next : ∀ which, OnlyChanges s (s.settleAtOnce.takeNamed which) ports := fun which =>
    settled.trans ((takeNamed_changes _ which).mono (by decide))
  have settles : ∀ w, OnlyChanges s (s.settle w) ports := fun w => (settle_changes s w).mono (by decide)
  cases i with
  | powerOnReset b m =>
    refine ⟨_, rfl, fun p hp => ?_⟩
    cases p <;> simp_all [SamePart, ports, inner]
  | fabricReset o =>
    refine ⟨_, rfl, settled.trans (OnlyChanges.trans (t := s.settleAtOnce.abandonUpstream.flushAll) ?_
      ((orderedFabricReset_changes _ o).mono (by decide)))⟩
    intro p hp
    cases p <;> simp_all [SamePart, State.abandonUpstream, State.flushAll, ports, inner]
  | externalTick mark o =>
    rw [exec, execExternalTick]
    split
    · exact ⟨_, rfl, .refl _ _⟩
    · exact ⟨_, rfl, (settles _).trans ((takeExternalTick_changes _ mark o).mono (by decide))⟩
  | tickLoss cause o =>
    have lost : OnlyChanges s ((s.settleAtOnce.enterHoldover.takeHoldoverCause cause o.handedWait).takeLocalTick o) ports :=
      settled.trans (((enterHoldover_changes _).mono (by decide)).trans
        (((takeHoldoverCause_changes _ _ _).mono (by decide)).trans ((takeLocalTick_changes _ o).mono (by decide))))
    rw [exec, execTickLoss]
    split
    · exact ⟨_, rfl, settled⟩
    · exact ⟨_, rfl, lost⟩
    · exact ⟨_, rfl, lost⟩
  | localTick o =>
    rw [exec, execLocalTick]
    split
    · exact ⟨_, rfl, (settles _).trans ((takeLocalTick_changes _ o).mono (by decide))⟩
    · exact ⟨_, rfl, settles _⟩
    · exact ⟨_, rfl, settles _⟩
  | drainConfirmed c => exact ⟨_, rfl, named _⟩
  | drainDeadline c => exact ⟨_, rfl, named _⟩
  | beaconStarved c => exact ⟨_, rfl, named _⟩
  | readyNotice c => exact ⟨_, rfl, next _⟩
  | clockSecondAdvance => exact ⟨_, rfl, named _⟩
  | windowBoundary => exact ⟨_, rfl, next _⟩
  | verdictList upTo =>
    rw [exec, execVerdictList]
    split
    · exact ⟨_, rfl, settled.trans (((dropDue_changes _ _).mono (by decide)).trans ((takeVerdicts_changes _ _ _ _).mono (by decide)))⟩
    · exact ⟨_, rfl, settled⟩
  | generationApplication => exact ⟨_, rfl, next _⟩
  | upstreamRequest request =>
    cases request with
    | none => exact ⟨_, rfl, settled.trans (arbitrate_changes _ _)⟩
    | some r => exact ⟨_, rfl, settled.trans (((present_changes _ r).mono (by decide)).trans (arbitrate_changes _ _))⟩
  | policyWrite beat data => exact ⟨_, rfl, settled.trans (policyMasterWrites_changes _ _ _)⟩
  | heartbeatWrite v e => exact ⟨_, rfl, settled.trans (policyMasterWrites_changes _ _ _)⟩
  | consumerIndexWrite v e => exact ⟨_, rfl, settled.trans (policyMasterWrites_changes _ _ _)⟩
  | clockSetWrite v e => exact ⟨_, rfl, settled.trans (policyMasterWrites_changes _ _ _)⟩
  | keepAwakeWrite v e => exact ⟨_, rfl, settled.trans (policyMasterWrites_changes _ _ _)⟩
  | downstreamResponse st beats => exact ⟨_, rfl, settled.trans ((takeResponse_changes _ st beats).mono (by decide))⟩
  | reportGrant => exact ⟨_, rfl, settled.trans (arbitrate_changes _ _)⟩
  | readyRise c => exact absurd rfl (h c).1
  | readyFall c => exact absurd rfl (h c).2
  | warmupExpiry c => exact ⟨_, rfl, next _⟩
  | spacingExpiry => exact ⟨_, rfl, next _⟩
  | grant c =>
    rw [exec, execGrant]
    split
    · refine ⟨_, rfl, settled.trans ?_⟩
      split
      · exact ((dropDue_changes _ _).mono (by decide)).trans ((takeGrant_changes _ c).mono (by decide))
      · exact .refl _ _
    · exact ⟨_, rfl, settled⟩
  | demand c => exact ⟨_, rfl, next _⟩
  | failSafeWake cause => exact ⟨_, rfl, next _⟩
  | heartbeatLapse => exact ⟨_, rfl, named _⟩

theorem takeReadyRise_readyLevel (s : State) (c d : Carrier) :
    (s.takeReadyRise c).readyLevel d = if d = c then true else s.readyLevel d := by
  have risen : (s.setReady c true).readyLevel d = if d = c then true else s.readyLevel d := by
    rw [readyLevel_setReady]; simp only [eq_comm]
  rw [State.takeReadyRise]
  split
  · rw [(endWarmup_changes _ _ _ _).readyLevel, risen]
  · exact risen

theorem takeReadyFall_readyLevel (s : State) (c d : Carrier) :
    (s.takeReadyFall c).readyLevel d = if d = c then false else s.readyLevel d := by
  have fallen : (s.setReady c false).readyLevel d = if d = c then false else s.readyLevel d := by
    rw [readyLevel_setReady]; simp only [eq_comm]
  rw [State.takeReadyFall]
  split
  · rw [(readyLost_changes _ _).readyLevel, fallen]
  · exact fallen

/-- Settles O2, command by command: the two ready commands, and the frames of every other. -/
theorem everyCommandAnswers : Obligations.EveryCommandAnswers := by
  intro i s
  have settled := settleAtOnce_changes s
  by_cases h : ∀ c, i ≠ .readyRise c ∧ i ≠ .readyFall c
  · obtain ⟨t, ht, changes⟩ := exec_changes (s := s) h
    refine ⟨t, ht, changes.mono (by decide), ?_⟩
    cases i with
    | readyRise c => exact absurd rfl (h c).1
    | readyFall c => exact absurd rfl (h c).2
    | _ => exact fun d => changes.readyLevel d
  · cases i with
    | readyRise c =>
      exact ⟨_, rfl, (settled.mono (by decide)).trans ((takeReadyRise_changes _ c).mono (by decide)),
        fun d => by rw [takeReadyRise_readyLevel, settled.readyLevel]⟩
    | readyFall c =>
      exact ⟨_, rfl, (settled.mono (by decide)).trans ((takeReadyFall_changes _ c).mono (by decide)),
        fun d => by rw [takeReadyFall_readyLevel, settled.readyLevel]⟩
    | _ => exact absurd (fun c => ⟨by simp, by simp⟩) h

/-! ### The resets and the lines -/

/-- The state after a power-on reset holds the reset values, whatever it leaves (R2, R27, R43, R59, R78, R115, R136, R150). -/
theorem resetValues_of_blocks {t : State} {b : BitVec 20} {m : Master} {w : List Request} {n : Nat}
    (controller : t.controller = .reset) (timer : t.timer = .reset)
    (transit : t.transit = { TransitPath.reset b m with waiting := w, owedAnswers := n }) (monitor : t.monitor = .reset)
    (evaluator : t.evaluator = .reset) (arbiter : t.arbiter = .reset) (loader : t.loader = .reset) (report : t.report = .reset) :
    ResetValues t := by
  have carrier : ∀ c, t.carrier c = .vacant := fun c => by rw [State.carrier, controller]; exact get_tabulate _ c
  refine ⟨fun c => ⟨carrier c, ?_, ?_, ?_, ?_⟩, ?_⟩
  · rw [State.supplyLine, carrier]; rfl
  · rw [State.keyLine, carrier]; rfl
  · rw [State.held, monitor]; exact get_tabulate _ c
  · rw [State.figures, evaluator]; exact get_tabulate _ c
  · rw [timer, transit, evaluator, arbiter, loader, report, State.attention, report]
    simp [SlotTimer.reset, TransitPath.reset, LoadEvaluator.reset, WarmupArbiter.reset, WarmupArbiter.budgetInUse,
      PolicyLoader.reset, ReportUnit.reset, Memory.read, policyWindow]

/-- Settles O3. -/
theorem resetHoldsSpecValues : Obligations.ResetHoldsSpecValues :=
  ⟨resetValues_of_blocks (b := 0) (m := 0) (w := []) (n := 0) rfl rfl rfl rfl rfl rfl rfl rfl, rfl, rfl⟩

/-- Settles O4. -/
theorem powerOnResetResult : Obligations.PowerOnResetResult := by
  intro b m s
  refine ⟨_, rfl, ?_, rfl, rfl, rfl, rfl, rfl, ?_⟩
  · exact resetValues_of_blocks rfl rfl rfl rfl rfl rfl rfl rfl
  · intro p hp
    cases p <;> simp_all [SamePart]

/-- Settles O5, state by state. -/
theorem lineLevels : Obligations.LineLevels := by
  intro s
  refine ⟨fun c => ⟨fun h => ?_, fun h => ?_⟩, ?_⟩
  · simp [State.supplyLine, State.keyLine, h]
  · simp only [State.supplyLine, State.keyLine, h, if_false]
    cases hs : (s.carrier c).state <;> simp_all [supplyActive, keyActive]
  · simp [State.attention, and_assoc]

end Sys2Proof.Machine
end

section
/-! PROOF. The statements about the ready lines, demands, grants, warm-ups, drains and the site clock, one taking each. -/

namespace Sys2Proof.Machine

/-! ### The clock and the arbiter -/

/-- Settles O21. -/
theorem clockSecondResult : Obligations.ClockSecondResult := by
  intro s rest h
  refine ⟨State.takeClockSecond { s with due := rest }, ?_, fun hs => ?_, fun hs => ?_, rfl, ?_⟩
  · rw [exec, execClockSecondAdvance, takeNamed_found h]; rfl
  · simp [State.takeClockSecond, Config.lastSecond, hs]
  · simp [State.takeClockSecond, Config.lastSecond, hs]
  · exact (dropDue_changes s rest).seq (takeClockSecond_changes _)

/-- Settles O38, by the attempt that both events make. -/
theorem expiryAndNoticeAttempt : Obligations.ExpiryAndNoticeAttempt := by
  intro s rest hq
  refine ⟨fun h => ?_, fun c h => ⟨fun waits => ?_, fun none => ?_⟩, fun e => rfl⟩
  · rw [exec, execSpacingExpiry, settleAtOnce_quiet hq, takeNamed_found h]; rfl
  · have entry : s.arbiter.queue.any (fun e => e.carrier == c) = true := by
      obtain ⟨e, he, hc⟩ := waits
      exact List.any_eq_true.mpr ⟨e, he, by simpa using hc⟩
    rw [exec, execReadyNotice, settleAtOnce_quiet hq, takeNamed_found h, State.takeDue, State.takeReadyNotice, if_pos entry]
  · have entry : s.arbiter.queue.any (fun e => e.carrier == c) = false := by
      simpa [List.any_eq_false] using none
    rw [exec, execReadyNotice, settleAtOnce_quiet hq, takeNamed_found h, State.takeDue, State.takeReadyNotice,
      if_neg (by simp [entry])]

/-! ### Ready lines -/

theorem endedWarmup_arbiter (s : State) (c : Carrier) (st : CarrierState) (k : Cause) :
    (s.endedWarmup c st k).arbiter = { s.arbiter with charged := s.arbiter.charged.filter (fun p => p.1 != c) } := rfl

/-- Settles O6, by what is reached before the attempt that ends the warm-up. -/
theorem readyRiseResult : Obligations.ReadyRiseResult := by
  intro s c hq
  have settled := settleAtOnce_quiet hq
  refine ⟨fun low senses warming => ?_, fun h => ?_⟩
  · have same : (s.setReady c true).carrier c = s.carrier c := rfl
    refine ⟨(s.setReady c true).endedWarmup c .on .ready, ?_, ?_, fun d hd => ?_, ?_, fun d hd => ?_, ?_, rfl, ?_, ?_, ?_⟩
    · rw [exec, execReadyRise, settled, State.takeReadyRise, if_pos (by simp [low, senses, warming]), endWarmup_eq]
    · rw [endedWarmup_carrier, if_pos rfl]; rfl
    · rw [endedWarmup_carrier, if_neg (Ne.symm hd)]; rfl
    · rw [endedWarmup_figures, if_pos ⟨by rw [same, warming], rfl, rfl⟩]; rfl
    · rw [endedWarmup_figures, if_neg (fun h => hd h.2.2.symm)]; rfl
    · rw [(endedWarmup_changes _ c .on .ready).readyLevel, readyLevel_setReady_same]
    · have := endedWarmup_handed (s.setReady c true) c .on .ready
      rwa [same, warming] at this
    · exact endedWarmup_due _ _ _ _
    · exact (setReady_changes s c true).seq (endedWarmup_changes _ c .on .ready)
  · rw [exec, execReadyRise, settled, State.takeReadyRise, if_neg]
    obtain h | h | h := h <;> simp [h]

/-- Settles O7: the loss of the line at a carrier that is no anchor is one transition. -/
theorem readyFallResult : Obligations.ReadyFallResult := by
  intro s c hq
  have settled := settleAtOnce_quiet hq
  refine ⟨fun high senses anchor serving => ?_, fun h => ?_⟩
  · have same : (s.setReady c false).carrier c = s.carrier c := rfl
    refine ⟨(s.setReady c false).transition c .faulted .readyLost none, ?_, ?_, fun d hd => ?_, ?_, ?_, ?_⟩
    · have plain : (s.setReady c false).isAnchor c = false := anchor
      rw [exec, execReadyFall, settled, State.takeReadyFall, if_pos (by simp [high, senses, serving]), State.readyLost,
        if_neg (by simp [plain])]
    · rw [transition_carrier_same]; rfl
    · rw [transition_carrier, if_neg (Ne.symm hd)]; rfl
    · rw [(transition_changes _ c .faulted .readyLost none).readyLevel, readyLevel_setReady_same]
    · exact transition_handed _ _ _ _ _
    · exact (setReady_changes s c false).seq (transition_changes_plain _ c .faulted .readyLost none (by simp))
  · rw [exec, execReadyFall, settled, State.takeReadyFall, if_neg]
    obtain h | h | h := h <;> simp [h]

/-! ### Demands -/

theorem demand_picks {c d : Carrier} {u : Bool} {s : State} {rest : List Due}
    (h : firstDue (isDemand c) s.due = some (.demand d u, rest)) : d = c := by
  have := firstDue_picks h
  cases u <;> simpa [isDemand] using this

/-- What is reached before the attempt that queueing a carrier ends in (R18, R117). -/
def State.queuedWithEntry (s : State) (c : Carrier) (k : Cause) (q : WakeClass) : State :=
  { s.transition c .queued k (some q) with
    arbiter := { s.arbiter with
      ordinal := s.arbiter.ordinal + 1
      queue := placeEntry { carrier := c, cls := q, ordinal := s.arbiter.ordinal + 1 } s.arbiter.queue } }

/-- What is reached before a raise is handed to the arbiter (R19). -/
def State.raisedRecord (s : State) (c : Carrier) (k : Cause) (q : WakeClass) : State :=
  (s.setCarrier c { s.carrier c with queuedClass := some q }).hand (.stateChange c .queued .queued k (some q))

section Operations

variable (s : State) (c d : Carrier) (k : Cause) (q : WakeClass)

theorem queueCarrier_eq : s.queueCarrier c k q = (s.queuedWithEntry c k q).attempt := by
  rw [State.queueCarrier, State.enqueue, State.queuedWithEntry, (transition_changes s c .queued k (some q)).arbiter]

theorem queuedWithEntry_carrier : (s.queuedWithEntry c k q).carrier d =
    if c = d then { s.carrier c with state := .queued, queuedClass := some q } else s.carrier d :=
  transition_carrier s c d .queued k (some q)

theorem queuedWithEntry_changes : OnlyChanges s (s.queuedWithEntry c k q) [.controller, .arbiter, .report] := by
  refine (transition_changes_plain s c .queued k (some q) (by simp)).seq (m := [.arbiter]) ?_
  intro p hp; cases p <;> simp_all [SamePart, State.queuedWithEntry]

theorem queuedWithEntry_handed :
    Handed s (s.queuedWithEntry c k q) (.stateChange c (s.carrier c).state .queued k (some q)) :=
  transition_handed s c .queued k (some q)

theorem raiseClass_eq {old : WakeClass} (h : (s.carrier c).queuedClass = some old) :
    s.raiseClass c k q = if q.rank < old.rank then (s.raisedRecord c k q).raiseEntry c q else s := by
  rw [State.raiseClass, h]; rfl

theorem raisedRecord_carrier : (s.raisedRecord c k q).carrier d =
    if c = d then { s.carrier c with queuedClass := some q } else s.carrier d := carrier_setCarrier s c d _

theorem raisedRecord_changes : OnlyChanges s (s.raisedRecord c k q) [.controller, .report] :=
  (setCarrier_changes s c _).seq (hand_changes _ _)

theorem raisedRecord_handed : Handed s (s.raisedRecord c k q) (.stateChange c .queued .queued k (some q)) := rfl

end Operations

/-- The entry of a carrier found in the queue stands where it was split out. -/
theorem find_entry {l before after : List WakeEntry} {e : WakeEntry} {c : Carrier} (h : l = before ++ e :: after)
    (own : e.carrier = c) (first : ∀ f ∈ before, f.carrier ≠ c) :
    l.find? (fun e => e.carrier == c) = some e ∧ l.erase e = before ++ after := by
  subst h
  have none : before.find? (fun e => e.carrier == c) = none := List.find?_eq_none.mpr (by simpa using first)
  have out : e ∉ before := fun h => first e h own
  refine ⟨by simp [List.find?_append, none, own], ?_⟩
  rw [List.erase_append_right _ out, List.erase_cons_head]

/-- Settles O9, state by state: what an entry and a raise reach before the attempt. -/
theorem demandResult : Obligations.DemandResult := by
  intro s c urgent rest hq h
  have taken : exec (.demand c) s = .next (State.takeDemand { s with due := rest } c urgent) := by
    rw [exec, execDemand, settleAtOnce_quiet hq, takeNamed_found h]; rfl
  have dropped : OnlyChanges s { s with due := rest } [.due] := dropDue_changes s rest
  have record : ∀ d, State.carrier { s with due := rest } d = s.carrier d := fun _ => rfl
  rw [taken, State.takeDemand, record]
  refine ⟨fun deep => ?_, fun old queued hold => ?_, fun ndeep nqueued => ?_⟩
  · rw [deep]
    dsimp only
    rw [queueCarrier_eq]
    refine ⟨_, rfl, ?_, fun d hd => ?_, rfl, ?_, ?_, ?_⟩
    · rw [queuedWithEntry_carrier, if_pos rfl, record]
    · rw [queuedWithEntry_carrier, if_neg (Ne.symm hd), record]
    · have handed := queuedWithEntry_handed { s with due := rest } c (demandCause urgent) (demandClass urgent)
      rwa [record, deep] at handed
    · exact (queuedWithEntry_changes _ c _ _).due
    · exact dropped.seq (queuedWithEntry_changes _ c _ _)
  · rw [queued]
    dsimp only
    rw [raiseClass_eq { s with due := rest } c _ _ (old := old) hold]
    refine ⟨fun low => by rw [if_neg (not_lt.mpr low)], fun high none => ?_, fun high before after e hqueue own first => ?_⟩
    all_goals
      have changes := raisedRecord_changes { s with due := rest } c (demandCause urgent) (demandClass urgent)
      rw [if_pos high, State.raiseEntry, changes.arbiter]
    · rw [show List.find? _ s.arbiter.queue = Option.none from List.find?_eq_none.mpr (by simpa using none)]
      refine ⟨_, rfl, ?_, fun d hd => ?_, rfl, changes.due, dropped.seq changes⟩
      · rw [raisedRecord_carrier, if_pos rfl, record]
      · rw [raisedRecord_carrier, if_neg (Ne.symm hd), record]
    · obtain ⟨found, erased⟩ := find_entry hqueue own first
      rw [found]
      dsimp only
      rw [erased]
      refine ⟨_, rfl, ?_, fun d hd => ?_, ?_, rfl, changes.due, ?_⟩
      · exact (raisedRecord_carrier _ c c (demandCause urgent) _).trans (if_pos rfl)
      · exact (raisedRecord_carrier _ c d (demandCause urgent) _).trans (if_neg (Ne.symm hd))
      · rw [own]
      · refine (dropped.seq changes (n := [.controller, .report, .due])).seq (m := [.arbiter]) ?_
        intro p hp; cases p <;> simp_all [SamePart]
  · cases hs : (s.carrier c).state <;> simp_all

/-! ### Grants and warm-ups -/

/-- Settles O11: the warm-up starts, and ends within the event where the sensed ready line is high. -/
theorem grantResult : Obligations.GrantResult := by
  intro s c hq
  have settled := settleAtOnce_quiet hq
  refine ⟨fun rest h queued => ?_, fun d rest h hne => ?_, fun none => ?_⟩
  · have taken : exec (.grant c) s = .next (State.takeGrant { s with due := rest } c) := by
      rw [exec, execGrant, settled, h]; simp
    have record : ∀ d, State.carrier { s with due := rest } d = s.carrier d := fun _ => rfl
    have level : ∀ d, State.readyLevel { s with due := rest } d = s.readyLevel d := fun _ => rfl
    have warming := transition_changes_plain { s with due := rest } c .warming .grant none (by simp)
    have dropped := dropDue_changes s rest
    have handed := transition_handed { s with due := rest } c .warming .grant none
    rw [taken, State.takeGrant, record, queued]
    dsimp only
    rw [level]
    refine ⟨fun off => ?_, fun sensing high => ?_⟩
    · rw [if_neg (by obtain h | h := off <;> simp [h])]
      refine ⟨_, rfl, ?_, fun d hd => ?_, ?_, warming.due, dropped.seq warming⟩
      · rw [transition_carrier_same]; rfl
      · rw [transition_carrier, if_neg (Ne.symm hd), record]
      · rwa [record, queued] at handed
    · rw [if_pos (by simp [sensing, high]), endWarmup_eq]
      generalize hw : State.transition { s with due := rest } c .warming .grant none = w at warming handed
      have entered : ∀ d, w.carrier d = if c = d then (s.carrier c).enter .warming none else s.carrier d := fun d => by
        rw [← hw, transition_carrier]; rfl
      have figures : ∀ d, w.figures d = s.figures d := fun d => by rw [warming.figures]; rfl
      have state : (w.carrier c).state = .warming := by rw [entered, if_pos rfl, enter_state]
      have stamp : ∀ n b, w.makeRecord n b = s.makeRecord n b := fun _ _ => by simp only [State.makeRecord, warming.timer]
      refine ⟨_, rfl, ?_, fun d hd => ?_, ?_, fun d hd => ?_, ?_, ?_, ?_, ?_⟩
      · rw [endedWarmup_carrier, if_pos rfl, entered, if_pos rfl]; rfl
      · rw [endedWarmup_carrier, if_neg (Ne.symm hd), entered, if_neg (Ne.symm hd)]
      · rw [endedWarmup_figures, if_pos ⟨state, rfl, rfl⟩, figures]; rfl
      · rw [endedWarmup_figures, if_neg (fun h => hd h.2.2.symm), figures]
      · rw [endedWarmup_arbiter, warming.arbiter]
      · have ended := endedWarmup_handed w c .on .ready
        rw [Handed, handed, state, record, queued, stamp, warming.timer] at ended
        exact ended
      · rw [endedWarmup_due, warming.due]
      · exact (dropped.seq warming (n := [.controller, .report, .due])).seq (endedWarmup_changes w c .on .ready)
  · rw [exec, execGrant, settled, h]
    simp [hne]
  · have : firstDue isGrant s.due = Option.none := firstDue_none fun d hd => by
      cases d <;> first | rfl | exact absurd hd (none _)
    rw [exec, execGrant, settled, this]

/-- Settles O12, by what is reached before the attempt that ends the warm-up. -/
theorem warmupExpiryResult : Obligations.WarmupExpiryResult := by
  intro s c rest hq h warming
  have taken : exec (.warmupExpiry c) s = .next (State.takeWarmupExpiry { s with due := rest } c) := by
    rw [exec, execWarmupExpiry, settleAtOnce_quiet hq, takeNamed_found h]; rfl
  have record : ∀ d, State.carrier { s with due := rest } d = s.carrier d := fun _ => rfl
  have dropped := dropDue_changes s rest
  have ended : ∀ (st : CarrierState) (k : Cause), OthersKept s (State.endedWarmup { s with due := rest } c st k) c
      ∧ OtherFiguresKept s (State.endedWarmup { s with due := rest } c st k) c
      ∧ (State.endedWarmup { s with due := rest } c st k).arbiter
          = { s.arbiter with charged := s.arbiter.charged.filter (fun p => p.1 != c) }
      ∧ (State.endedWarmup { s with due := rest } c st k).due = rest.filter (fun d => d != .warmupExpiry c)
      ∧ OnlyChanges s (State.endedWarmup { s with due := rest } c st k) [.controller, .evaluator, .arbiter, .report, .due] := by
    intro st k
    refine ⟨fun d hd => ?_, fun d hd => ?_, rfl, endedWarmup_due _ _ _ _, dropped.seq (endedWarmup_changes _ c st k)⟩
    · rw [endedWarmup_carrier, if_neg (Ne.symm hd), record]
    · rw [endedWarmup_figures, if_neg (fun h => hd h.2.2.symm)]; rfl
  have handed := endedWarmup_handed { s with due := rest } c
  simp only [record, warming] at handed
  rw [taken, State.takeWarmupExpiry, record, warming]
  dsimp only
  by_cases sensing : (s.carrier c).values.sensing = true
  · rw [if_pos sensing, endWarmup_eq]
    refine ⟨_, rfl, fun _ => ⟨?_, ?_, handed _ _⟩, fun off => absurd sensing (by simp [off]), ended _ _⟩
    · rw [endedWarmup_carrier, if_pos rfl, record]; rfl
    · rw [endedWarmup_figures, if_neg (by simp)]; rfl
  · rw [if_neg sensing, endWarmup_eq]
    refine ⟨_, rfl, fun on => absurd on sensing, fun _ => ⟨?_, ?_, handed _ _⟩, ended _ _⟩
    · rw [endedWarmup_carrier, if_pos rfl, record]; rfl
    · rw [endedWarmup_figures, if_pos ⟨by rw [record, warming], rfl, rfl⟩]; rfl

/-! ### Ends of drains and of light sleep -/

/-- Settles O13: each of the three ends is one transition, with the key level or the backoff set after it. -/
theorem drainAndLightEnds : Obligations.DrainAndLightEnds := by
  intro s c rest
  have record : ∀ d, State.carrier { s with due := rest } d = s.carrier d := fun _ => rfl
  have dropped := dropDue_changes s rest
  have confirmed : ∀ beacon, (s.carrier c).state = .draining → State.takeDrainConfirmed { s with due := rest } c beacon =
      (State.transition { s with due := rest } c .light .drainConfirmed none).setCarrier c
        { (State.transition { s with due := rest } c .light .drainConfirmed none).carrier c with keyed := beacon } := by
    intro beacon state
    rw [State.takeDrainConfirmed, record, state]
  have deadline : (s.carrier c).state = .draining → State.takeDrainDeadline { s with due := rest } c =
      (State.transition { s with due := rest } c .on .drainDeadline none).setCarrier c
        { (State.transition { s with due := rest } c .on .drainDeadline none).carrier c with
          backoff := s.globals.drainBackoff } := by
    intro state
    rw [State.takeDrainDeadline, record, state]
    rfl
  have starved : (s.carrier c).state = .light → State.takeBeaconStarved { s with due := rest } c =
      State.transition { s with due := rest } c .on .beaconStarved none := by
    intro state
    rw [State.takeBeaconStarved, record, state]
  refine ⟨fun beacon state h => ?_, fun state h => ?_, fun state h => ?_⟩
  · have moved := transition_changes_plain { s with due := rest } c .light .drainConfirmed none (by simp)
    have handed := transition_handed { s with due := rest } c .light .drainConfirmed none
    rw [record, state] at handed
    have taken : exec (.drainConfirmed c) s = .next (State.takeDrainConfirmed { s with due := rest } c beacon) := by
      rw [exec, execDrainConfirmed, takeNamed_found h]; rfl
    rw [taken, confirmed _ state]
    refine ⟨_, rfl, ?_, fun d hd => ?_, handed, moved.due, dropped.seq (moved.seq (setCarrier_changes _ _ _) (n := [.controller, .report]))⟩
    · rw [carrier_setCarrier_same, transition_carrier_same]; rfl
    · rw [carrier_setCarrier, if_neg (Ne.symm hd), transition_carrier, if_neg (Ne.symm hd), record]
  · have moved := transition_changes_plain { s with due := rest } c .on .drainDeadline none (by simp [record, state])
    have handed := transition_handed { s with due := rest } c .on .drainDeadline none
    rw [record, state] at handed
    have taken : exec (.drainDeadline c) s = .next (State.takeDrainDeadline { s with due := rest } c) := by
      rw [exec, execDrainDeadline, takeNamed_found h]; rfl
    rw [taken, deadline state]
    refine ⟨_, rfl, ?_, fun d hd => ?_, handed, moved.due, dropped.seq (moved.seq (setCarrier_changes _ _ _) (n := [.controller, .report]))⟩
    · rw [carrier_setCarrier_same, transition_carrier_same]; rfl
    · rw [carrier_setCarrier, if_neg (Ne.symm hd), transition_carrier, if_neg (Ne.symm hd), record]
  · have moved := transition_changes_plain { s with due := rest } c .on .beaconStarved none (by simp [record, state])
    have handed := transition_handed { s with due := rest } c .on .beaconStarved none
    rw [record, state] at handed
    have taken : exec (.beaconStarved c) s = .next (State.takeBeaconStarved { s with due := rest } c) := by
      rw [exec, execBeaconStarved, takeNamed_found h]; rfl
    rw [taken, starved state]
    refine ⟨_, rfl, ?_, fun d hd => ?_, handed, moved.due, dropped.seq moved⟩
    · rw [transition_carrier_same]; rfl
    · rw [transition_carrier, if_neg (Ne.symm hd), record]

end Sys2Proof.Machine
end

section
/-! PROOF. The step of the machine, the laws at reset, and the grant rule. -/

namespace Sys2Proof.Machine

/-! ### Reset -/

/-- Settles O55. -/
theorem resetMeetsLaws : Obligations.ResetMeetsLaws := by
  have carrier : ∀ c, State.reset.carrier c = .vacant := fun c => get_tabulate _ c
  have held : ∀ c, State.reset.held c = [] := fun c => get_tabulate _ c
  obtain ⟨wake, budget⟩ := (queueLaw_iff _).mp (QueueLaw.of_vacant (b := True) (t := State.reset) rfl rfl carrier)
  refine ⟨wf_reset, ⟨by simp [State.reset, TransitPath.reset], by simp [State.reset, TransitPath.reset]⟩, ⟨by decide, by decide⟩,
    ⟨rfl, nofun⟩, ⟨fun c => ?_, fun w hw h => ?_⟩, fun c => ?_, nofun, wake, budget⟩
  · rw [held]
    exact ⟨trivial, nofun, fun h => absurd rfl h⟩
  · obtain rfl := List.mem_singleton.mp hw
    exact absurd h (by decide)
  · rw [carrier]
    exact ⟨by simp [CarrierRecord.vacant, CarrierValues.cleared], nofun⟩

/-! ### Attempts until none grants -/

/-- No attempt grants anything: the candidate, if there is one, does not fit (R122). -/
def Settled (s : State) : Prop := ∀ e, s.candidate = some e → s.grantable e = false

theorem candidate_mem {s : State} {e : WakeEntry} (h : s.candidate = some e) : e ∈ s.arbiter.queue := List.mem_of_find?_eq_some h

theorem makeGrant_queue_length {s : State} {e : WakeEntry} (h : e ∈ s.arbiter.queue) :
    (s.makeGrant e).arbiter.queue.length + 1 = s.arbiter.queue.length := by
  have := List.length_erase_of_mem h
  have pos : 0 < s.arbiter.queue.length := List.length_pos_of_mem h
  show (s.arbiter.queue.erase e).length + 1 = _
  omega

/-- As many attempts as there are entries end where none grants. -/
theorem attempts_settled {n : Nat} {s : State} (h : s.arbiter.queue.length ≤ n) : Settled (attempts n s) := by
  induction n generalizing s with
  | zero =>
    intro e he
    have := List.length_pos_of_mem (candidate_mem he)
    rw [attempts] at this
    omega
  | succ n ih =>
    rw [attempts]
    split
    · next hn => intro e he; rw [hn] at he; cases he
    · next e he =>
      split
      · have := makeGrant_queue_length (candidate_mem he)
        exact ih (by omega)
      · next hg =>
        intro f hf
        obtain rfl := Option.some.inj (he.symm.trans hf)
        simpa using hg

theorem attempt_settled (s : State) : Settled s.attempt := attempts_settled le_rfl

/-- Further attempts than it takes change nothing. -/
theorem attempts_of_settled {s : State} (h : Settled s) (n : Nat) : attempts n s = s := by
  cases n with
  | zero => rfl
  | succ n =>
    rw [attempts]
    split
    · rfl
    · next e he => rw [h e he]; rfl

theorem attempts_succ {s : State} {e : WakeEntry} (he : s.candidate = some e) (hg : s.grantable e = true) (n : Nat) :
    attempts (n + 1) s = attempts n (s.makeGrant e) := by
  rw [attempts, he]
  exact if_pos hg

theorem attempt_of_grantable {s : State} {e : WakeEntry} (he : s.candidate = some e) (hg : s.grantable e = true) :
    s.attempt = (s.makeGrant e).attempt := by
  rw [State.attempt, ← makeGrant_queue_length (candidate_mem he), attempts_succ he hg]
  rfl

theorem grantable_iff (s : State) (e : WakeEntry) : s.grantable e = true ↔
    s.arbiter.budgetInUse + (s.carrier e.carrier).values.weight ≤ s.globals.budgetLimit ∧ s.arbiter.spacing = 0 := by
  simp [State.grantable]

/-- Attempts that grant anything leave the budget in use within the limit (R122). -/
theorem attempts_budget (n : Nat) (s : State) :
    attempts n s = s ∨ (attempts n s).arbiter.budgetInUse ≤ s.globals.budgetLimit := by
  induction n generalizing s with
  | zero => exact .inl rfl
  | succ n ih =>
    rw [attempts]
    split
    · exact .inl rfl
    · next e he =>
      split
      · next hg =>
        have fits := ((grantable_iff s e).mp hg).1
        have used : (s.makeGrant e).arbiter.budgetInUse = s.arbiter.budgetInUse + (s.carrier e.carrier).values.weight := by
          simp [State.makeGrant, WarmupArbiter.budgetInUse]
        obtain same | within := ih (s.makeGrant e)
        · rw [same, used]; exact .inr fits
        · exact .inr within
      · exact .inl rfl

/-- Settles O37, by the recursion of the attempts on the entries left. -/
theorem grantRule : Obligations.GrantRule := by
  intro s
  refine ⟨fun e => ?_, fun e => grantable_iff s e, ?_, fun e => ?_, fun h => ?_, fun e he hg => ?_, fun e he hg hsp => ?_,
    fun e he hg => attempt_of_grantable he hg, attempt_settled s, attempts_budget _ s⟩
  · rw [State.entryReady]
    cases hc : e.cls <;> cases hn : (s.carrier e.carrier).sleepCount <;> simp
  · rw [State.candidate, List.find?_eq_none]
    simp
  · rw [State.candidate, List.find?_eq_some_iff_append]
    constructor
    · rintro ⟨ready, before, after, hq, hb⟩
      exact ⟨before, after, hq, ready, by simpa using hb⟩
    · rintro ⟨before, after, hq, ready, hb⟩
      exact ⟨ready, before, after, hq, by simpa using hb⟩
  · exact attempts_of_settled (fun e he => by rw [h] at he; cases he) _
  · exact attempts_of_settled (fun f hf => by obtain rfl := Option.some.inj (he.symm.trans hf); exact hg) _
  · rw [attempt_of_grantable he hg]
    refine attempts_of_settled (fun f _ => ?_) _
    have running : (s.makeGrant e).arbiter.spacing ≠ 0 := hsp.ne'
    exact Bool.eq_false_iff.mpr fun hf => running ((grantable_iff _ f).mp hf).2

/-! ### The part on its own -/

theorem firstDue_split {which : Due → Bool} {before after : List Due} {d : Due} (hd : which d = true)
    (hb : ∀ e ∈ before, which e = false) : firstDue which (before ++ d :: after) = some (d, before ++ after) := by
  induction before with
  | nil => simp [firstDue, hd]
  | cons e before ih =>
    have he := hb e List.mem_cons_self
    simp [firstDue, he, ih fun f hf => hb f (List.mem_cons_of_mem e hf)]

/-- The event taken next, where none is taken at once and those before it are tick losses (R25). -/
theorem nextDue_quiet {s : State} {before after : List Due} {d : Due} (h : s.due = before ++ d :: after) (hq : Quiet s)
    (hd : d ≠ .tickLoss) (hb : ∀ e ∈ before, e = .tickLoss) : nextDue false s.due = some (d, before ++ after) := by
  have none : firstDue Due.atOnce s.due = none := firstDue_none hq
  rw [nextDue, none, h]
  dsimp only
  rw [firstDue_split (by simpa using hd) (fun e he => by simp [hb e he])]

theorem nextDue_atOnce {s : State} {before after : List Due} {d : Due} (h : s.due = before ++ d :: after)
    (hd : d.atOnce = true) (hb : ∀ e ∈ before, e.atOnce = false) : nextDue false s.due = some (d, before ++ after) := by
  rw [nextDue, h, firstDue_split hd hb]

theorem step_of_nextDue {s : State} {d : Due} {rest : List Due} (hp : s.pending = []) (h : nextDue false s.due = some (d, rest)) :
    step s = .next (State.takeDue { s with due := rest } d) := by
  have idle : s.idle = State.takeDue { s with due := rest } d := by rw [State.idle, h]
  rw [← idle, step, hp]

/-- An event taken at once is what its command takes. -/
theorem exec_atOnce {s : State} {before after : List Due} {d : Due} (h : s.due = before ++ d :: after)
    (hd : d.atOnce = true) (hb : ∀ e ∈ before, e.atOnce = false) :
    exec (commandOf d) s = .next (State.takeDue { s with due := before ++ after } d) := by
  have found : ∀ which : Due → Bool, which d = true → (∀ e, which e = true → e.atOnce = true) →
      s.takeNamed which = State.takeDue { s with due := before ++ after } d := fun which hw hat => by
    refine takeNamed_found (h ▸ firstDue_split hw fun e he => ?_)
    by_contra hn
    exact absurd (hat e (by simpa using hn)) (by simp [hb e he])
  cases d with
  | clockSecond => exact congrArg _ (found _ rfl (by simp [Due.atOnce]))
  | drainConfirmed c b => exact congrArg _ (found (isDrainConfirmed c) (by cases b <;> simp [isDrainConfirmed])
      (fun e he => by simp only [isDrainConfirmed, Bool.or_eq_true, beq_iff_eq] at he; obtain rfl | rfl := he <;> rfl))
  | drainDeadline c => exact congrArg _ (found (fun d => d == .drainDeadline c) (by simp) (by simp [Due.atOnce]))
  | beaconStarved c => exact congrArg _ (found (fun d => d == .beaconStarved c) (by simp) (by simp [Due.atOnce]))
  | heartbeatLapse => exact congrArg _ (found _ rfl (by simp [Due.atOnce]))
  | _ => cases hd

/-- Where nothing is taken at once, the oldest event but tick loss is what its command takes. -/
theorem exec_quiet {s : State} {before after : List Due} {d : Due} (h : s.due = before ++ d :: after) (hq : Quiet s)
    (hd : d ≠ .tickLoss) (hb : ∀ e ∈ before, e = .tickLoss) :
    exec (commandOf d) s = .next (State.takeDue { s with due := before ++ after } d) := by
  have first : ∀ which : Due → Bool, which d = true → which .tickLoss = false →
      firstDue which s.due = some (d, before ++ after) := fun which hw hl => by
    rw [h]
    exact firstDue_split hw fun e he => by rw [hb e he, hl]
  have settled := settleAtOnce_quiet hq
  have found : ∀ which : Due → Bool, which d = true → which .tickLoss = false →
      s.settleAtOnce.takeNamed which = State.takeDue { s with due := before ++ after } d := fun which hw hl => by
    rw [settled]
    exact takeNamed_found (first which hw hl)
  have now : d.atOnce = false := hq d (by rw [h]; simp)
  cases d with
  | readyNotice c => exact congrArg _ (found (fun d => d == .readyNotice c) (by simp) (by simp))
  | warmupExpiry c => exact congrArg _ (found (fun d => d == .warmupExpiry c) (by simp) (by simp))
  | spacingExpiry => exact congrArg _ (found _ rfl rfl)
  | boundary w clean locked => exact congrArg _ (found isBoundary rfl rfl)
  | generation => exact congrArg _ (found _ rfl rfl)
  | verdicts fresh list =>
    rw [commandOf, exec, execVerdictList, settled, first isVerdicts rfl rfl]
    rfl
  | grant c =>
    rw [commandOf, exec, execGrant, settled, first isGrant rfl rfl]
    simp [State.takeDue]
  | demand c u => exact congrArg _ (found (isDemand c) (by cases u <;> simp [isDemand]) (by simp [isDemand]))
  | failSafe f => rw [commandOf, exec, execFailSafeWake, found (fun d => d == .failSafe f) (by simp) (by simp)]
  | tickLoss => exact absurd rfl hd
  | _ => cases now

/-- Whether the events handed may wait is no matter of the tick itself. -/
theorem takeLocalTick_handedWait (s : State) (o : TickOrder) (b : Bool) :
    s.takeLocalTick { o with handedWait := b } = s.takeLocalTick o := by
  simp only [State.takeLocalTick, State.handTick, State.appliesEarly, State.lateTakings]

/-- With nothing outstanding TICK_LOSS is the tick loss that the part detects on its own (log entry 6). -/
theorem exec_tickLoss_alone {s : State} (h : s.due = []) : exec (commandOf .tickLoss) s = .next s.takeTickLoss := by
  have settled : s.settleAtOnce = s := settleAtOnce_quiet (by simp [Quiet, h])
  have due : s.enterHoldover.due = [] := (enterHoldover_changes s).due.trans h
  have drained : s.enterHoldover.takeDrains = s.enterHoldover := takeSteps_none (by rw [due]; rfl) _
  have waits : ∀ t : State, (∀ d ∈ t.due, ∃ c, d = .grant c) → t.settle true = t := by
    intro t ht
    rw [State.settle]
    refine takeSteps_none ?_ _
    have none : ∀ which : Due → Bool, (∀ c, which (.grant c) = false) → firstDue which t.due = none := fun which hw =>
      firstDue_none fun d hd => by obtain ⟨c, rfl⟩ := ht d hd; exact hw c
    rw [nextDue, none Due.atOnce (fun _ => rfl), none _ (fun _ => by simp [Due.mayWait]), none _ (fun _ => by simp)]
  have cause : s.enterHoldover.takeHoldoverCause .beforeOutstanding true = s.enterHoldover.takeFailSafe .holdover := by
    rw [State.takeHoldoverCause.eq_def, drained]
    refine waits _ fun d hd => ?_
    obtain ⟨l, hl⟩ := takeFailSafe_addsGrants s.enterHoldover .holdover
    rw [hl, due, List.nil_append] at hd
    obtain ⟨c, -, rfl⟩ := List.mem_map.mp hd
    exact ⟨c, rfl⟩
  show execTickLoss .beforeOutstanding { usualOrder with handedWait := true } s = _
  rw [execTickLoss, settled, takeLocalTick_handedWait, cause, State.takeTickLoss.eq_def]
  cases s.timer.state <;> rfl

theorem takesOutstanding {s : State} (hp : s.pending = []) : TakesOutstanding s := by
  refine ⟨fun before after d h hd => ?_, fun h => ?_⟩
  · obtain ⟨now, first⟩ | ⟨quiet, hne, first⟩ := hd
    · rw [step_of_nextDue hp (nextDue_atOnce h now first), exec_atOnce h now first]
    · rw [step_of_nextDue hp (nextDue_quiet h quiet hne first), exec_quiet h quiet hne first]
  · rw [step_of_nextDue hp (d := .tickLoss) (rest := []) (by rw [h]; rfl), exec_tickLoss_alone rfl]
    rfl

theorem letsTimePass {s : State} (hp : s.pending = []) (h : s.due = []) : LetsTimePass s := by
  have settled : s.settleAtOnce = s := settleAtOnce_quiet (by simp [Quiet, h])
  have idle : step s = .next (match s.arbiterChoice with
      | some side => s.grantSide side
      | none => if s.lossReached then s.takeTickLoss
        else if s.localTickReached then s.takeLocalTick usualOrder else s.passTime) := by
    rw [step, hp, State.idle, h] <;> rfl
  refine ⟨fun hc => ?_, fun hc => ?_, fun hc running => ?_, fun hc holds => ?_⟩
  · rw [idle, hc, exec, execReportGrant, settled, State.arbitrate, hc]
    rfl
  · rw [idle, hc, exec, execUpstreamRequest, settled, State.arbitrate, hc]
    rfl
  · have reached : s.lossReached = decide (2 * s.slotLength ≤ s.timer.lossTimer) := by
      rw [State.lossReached.eq_def]
      split <;> simp_all
    have still : s.localTickReached = false := by
      rw [State.localTickReached.eq_def]
      split <;> simp_all
    rw [idle, hc, exec_tickLoss_alone h]
    refine ⟨fun late => by simp [reached, late], fun early => ?_⟩
    simp only [reached, not_le.mpr early, decide_false, Bool.false_eq_true, if_false, still, State.passTime]
    split <;> simp_all
  · have reached : s.lossReached = false := by rw [State.lossReached, holds]
    have due : s.localTickReached = (s.timer.holdover == some 0) := by rw [State.localTickReached, holds]
    have pass : s.passTime = { s with timer := { s.timer with holdover := s.timer.holdover.map (fun n => n - 1) } } := by
      rw [State.passTime, holds]
    rw [idle, hc]
    simp only [reached, Bool.false_eq_true, if_false, due]
    refine ⟨fun now => ?_, fun n later => ?_, fun none => ?_⟩
    · rw [now, exec, execLocalTick, show s.settle usualOrder.handedWait = s from settle_nothing h _, holds]
      rfl
    · rw [if_neg (by simp [later]), pass, later]; rfl
    · rw [if_neg (by simp [none]), pass, none]
      cases s with | mk _ timer => cases timer; simp_all

/-- Settles O1: the front command by definition, the idle step by the event or the time that it takes. -/
theorem stepRunsFrontCommand : Obligations.StepRunsFrontCommand := by
  refine ⟨fun s i rest h => by rw [step, h], fun s h => ⟨takesOutstanding h, letsTimePass h⟩, fun s => ⟨fun h => ?_, fun p h => ?_⟩⟩
  · rw [State.slotLength, h]; rfl
  · rw [State.slotLength, h]; rfl

end Sys2Proof.Machine
end

section
/-! PROOF. What the arbiter does with the entries that a wake of several carriers makes (O8, O10): each piece of a wake hands on
entries and grants some, and pieces one after the other hand on and grant what both do. -/

namespace Sys2Proof.Machine

/-- What an entry keeps in the queue: its carrier and its ordinal. -/
def WakeEntry.key (e : WakeEntry) : Carrier × Nat := (e.carrier, e.ordinal)

/-- The keys of the entries made for carriers in their order, after an ordinal. -/
def newKeys (n : Nat) (made : List Carrier) : List (Carrier × Nat) := made.mapIdx fun i c => (c, n + (i + 1))

theorem newKeys_append (n : Nat) (l m : List Carrier) : newKeys n (l ++ m) = newKeys n l ++ newKeys (n + l.length) m := by
  rw [newKeys, newKeys, newKeys, List.mapIdx_append]
  congr 2
  funext i c
  rw [show n + (i + l.length + 1) = n + l.length + (i + 1) by omega]

theorem mem_newKeys {n i : Nat} {made : List Carrier} {c : Carrier} (h : made[i]? = some c) : (c, n + (i + 1)) ∈ newKeys n made := by
  refine List.mem_iff_getElem?.mpr ⟨i, ?_⟩
  rw [newKeys, List.getElem?_mapIdx, h]
  rfl

/-- Entries have been made for carriers and taken in by the arbiter, which has granted some of all it had. -/
structure Entered (s t : State) (made : List Carrier) : Prop where
  values : ∀ c, (t.carrier c).values = (s.carrier c).values
  globals : t.globals = s.globals
  ordinal : t.arbiter.ordinal = s.arbiter.ordinal + made.length
  taken : ∃ granted : List WakeEntry,
    t.due = s.due ++ granted.map (fun g => .grant g.carrier)
    ∧ t.arbiter.charged = s.arbiter.charged ++ granted.map (fun g => (g.carrier, (s.carrier g.carrier).values.weight))
    ∧ t.arbiter.spacing = (if granted = [] then s.arbiter.spacing else s.globals.spacing)
    ∧ (s.arbiter.spacing ≠ 0 → granted = [])
    ∧ ((granted ++ t.arbiter.queue).map WakeEntry.key).Perm (s.arbiter.queue.map WakeEntry.key ++ newKeys s.arbiter.ordinal made)

theorem globals_congr {s t : State} (h : t.loader = s.loader) : t.globals = s.globals := by
  rw [State.globals, State.globals, h]

theorem Entered.trans {s t u : State} {l m : List Carrier} (h : Entered s t l) (k : Entered t u m) : Entered s u (l ++ m) := by
  obtain ⟨hv, hg, ho, first, hd, hc, hs, hr, hp⟩ := h
  obtain ⟨kv, kg, ko, second, kd, kc, ks, kr, kp⟩ := k
  refine ⟨fun c => (kv c).trans (hv c), kg.trans hg, by rw [ko, ho, List.length_append]; omega, first ++ second, ?_, ?_, ?_, ?_, ?_⟩
  · rw [kd, hd, List.map_append, List.append_assoc]
  · rw [kc, hc, List.map_append, List.append_assoc]
    simp only [hv]
  · rw [ks, hs, hg]
    cases second with
    | nil => simp
    | cons e second => simp
  · intro running
    have none := hr running
    subst none
    exact kr (by rw [hs, if_pos rfl]; exact running)
  · rw [newKeys_append, ← ho, List.append_assoc, List.map_append]
    refine (kp.append_left _).trans ?_
    rw [← List.append_assoc, ← List.append_assoc, ← List.map_append]
    exact hp.append_right _

/-- Nothing that the arbiter reads has changed but what makes no entry ready or grantable. -/
structure SameAtArbiter (s t : State) : Prop where
  values : ∀ c, (t.carrier c).values = (s.carrier c).values
  slept : ∀ c, (t.carrier c).sleepCount = (s.carrier c).sleepCount
  globals : t.globals = s.globals
  arbiter : t.arbiter = s.arbiter

theorem SameAtArbiter.settled {s t : State} (h : SameAtArbiter s t) (hs : Settled s) : Settled t := by
  have ready : ∀ e, t.entryReady e = s.entryReady e := fun e => by
    simp only [State.entryReady, h.slept, h.values]
  intro e he
  have candidate : s.candidate = some e := by
    rw [State.candidate, ← h.arbiter, ← funext ready]
    exact he
  have := hs e candidate
  rw [State.grantable] at this ⊢
  rw [h.arbiter, h.values, h.globals]
  exact this

theorem SameAtArbiter.entered {s t : State} (h : SameAtArbiter s t) (hd : t.due = s.due) : Entered s t [] :=
  ⟨h.values, h.globals, by rw [h.arbiter]; rfl, [], by simp [hd, h.arbiter, newKeys]⟩

theorem SameAtArbiter.trans {s t u : State} (h : SameAtArbiter s t) (k : SameAtArbiter t u) : SameAtArbiter s u :=
  ⟨fun c => (k.values c).trans (h.values c), fun c => (k.slept c).trans (h.slept c), k.globals.trans h.globals,
    k.arbiter.trans h.arbiter⟩

/-- Entries have been made and taken in, and where any has, or no entry waited grantable before, none does now. -/
def EnteredSettled (s t : State) (made : List Carrier) : Prop := Entered s t made ∧ (made ≠ [] ∨ Settled s → Settled t)

theorem EnteredSettled.trans {s t u : State} {l m : List Carrier} (h : EnteredSettled s t l) (k : EnteredSettled t u m) :
    EnteredSettled s u (l ++ m) := by
  refine ⟨h.1.trans k.1, fun made => k.2 ?_⟩
  by_cases hm : m = []
  · subst hm
    rw [List.append_nil] at made
    exact .inr (h.2 made)
  · exact .inl hm

theorem SameAtArbiter.enteredSettled {s t : State} (h : SameAtArbiter s t) (hd : t.due = s.due) : EnteredSettled s t [] :=
  ⟨h.entered hd, fun made => made.elim (absurd rfl) h.settled⟩

section Operations

variable (s : State)

theorem attempt_entered : Entered s s.attempt [] := by
  have changes := attempt_changes s
  obtain ⟨granted, due, charged, spacing, running, perm, ordinal⟩ := attempt_grants s
  refine ⟨fun c => by rw [changes.carrier c], globals_congr changes.loader, ordinal, granted, due, charged, spacing, running, ?_⟩
  rw [newKeys, List.mapIdx_nil, List.append_nil]
  exact perm.map _

/-- What is done before an attempt, and the attempt. -/
theorem Entered.attempt {s t : State} {made : List Carrier} (h : Entered s t made) : EnteredSettled s t.attempt made := by
  have := h.trans (attempt_entered t)
  rw [List.append_nil] at this
  exact ⟨this, fun _ => attempt_settled t⟩

theorem enter_sleepCount (r : CarrierRecord) {st : CarrierState} (q : Option WakeClass)
    (h : st = .on ∨ st = .draining ∨ st = .light ∨ st = .queued ∨ st = .faulted) : (r.enter st q).sleepCount = r.sleepCount := by
  obtain rfl | rfl | rfl | rfl | rfl := h <;> rfl

/-- A transition to a state whose entry leaves the sleep counter. -/
theorem transition_sameAtArbiter (c : Carrier) {st : CarrierState} (k : Cause) (q : Option WakeClass)
    (h : st = .on ∨ st = .draining ∨ st = .light ∨ st = .queued ∨ st = .faulted) : SameAtArbiter s (s.transition c st k q) where
  values d := by
    rw [transition_carrier]
    split
    · next e => rw [enter_values, e]
    · rfl
  slept d := by
    rw [transition_carrier]
    split
    · next e => rw [enter_sleepCount _ _ h, e]
    · rfl
  globals := globals_congr (transition_changes s c st k q).loader
  arbiter := (transition_changes s c st k q).arbiter

theorem queueCarrier_entered (c : Carrier) (k : Cause) (q : WakeClass) : EnteredSettled s (s.queueCarrier c k q) [c] := by
  have same := transition_sameAtArbiter s c (st := .queued) k (some q) (by simp)
  have due := (transition_changes s c .queued k (some q)).due
  rw [queueCarrier_eq]
  refine Entered.attempt ⟨same.values, same.globals, rfl, [], by simp [State.queuedWithEntry, due], by simp [State.queuedWithEntry],
    rfl, fun _ => rfl, ?_⟩
  exact ((placeEntry_perm _ _).map WakeEntry.key).trans (List.perm_append_singleton _ _).symm

/-- An entry that is moved to another class keeps its key. -/
theorem raiseEntry_entered (c : Carrier) (q : WakeClass) : EnteredSettled s (s.raiseEntry c q) [] := by
  rw [State.raiseEntry]
  split
  · exact SameAtArbiter.enteredSettled ⟨fun _ => rfl, fun _ => rfl, rfl, rfl⟩ rfl
  · next e he =>
    refine Entered.attempt ⟨fun _ => rfl, rfl, rfl, [], by simp, by simp, rfl, fun _ => rfl, ?_⟩
    rw [newKeys, List.mapIdx_nil, List.append_nil]
    refine ((placeEntry_perm _ _).map WakeEntry.key).trans ?_
    exact ((List.perm_cons_erase (List.mem_of_find?_eq_some he)).map WakeEntry.key).symm

theorem raiseClass_entered (c : Carrier) (k : Cause) (q : WakeClass) : EnteredSettled s (s.raiseClass c k q) [] := by
  have none : EnteredSettled s s [] := SameAtArbiter.enteredSettled ⟨fun _ => rfl, fun _ => rfl, rfl, rfl⟩ rfl
  cases h : (s.carrier c).queuedClass with
  | none => rw [State.raiseClass, h]; exact none
  | some old =>
    rw [raiseClass_eq s c k q h]
    split
    · have same : SameAtArbiter s (s.raisedRecord c k q) := by
        refine ⟨fun d => ?_, fun d => ?_, rfl, rfl⟩ <;> (rw [raisedRecord_carrier]; split; next e => rw [e]) <;> rfl
      exact (same.enteredSettled rfl).trans (raiseEntry_entered _ c q)
    · exact none

/-- A wake makes an entry exactly for a carrier in DEEP. -/
theorem wake_entered (c : Carrier) (k : Cause) (q : WakeClass) :
    EnteredSettled s (s.wake c k q) (if (s.carrier c).state = .deep then [c] else []) := by
  have toOn : EnteredSettled s (s.transition c .on k none) [] :=
    (transition_sameAtArbiter s c k none (.inl rfl)).enteredSettled (transition_changes s c .on k none).due
  have none : EnteredSettled s s [] := SameAtArbiter.enteredSettled ⟨fun _ => rfl, fun _ => rfl, rfl, rfl⟩ rfl
  rw [State.wake]
  cases h : (s.carrier c).state <;> simp only [reduceCtorEq, if_false, if_true]
  case draining | light => exact toOn
  case deep => exact queueCarrier_entered s c k q
  case queued => exact raiseClass_entered s c k q
  all_goals exact none

end Operations

/-- A wake of some carriers makes entries for those of them in DEEP, in their order. -/
theorem wakeFold_entered (s : State) (which : State → Carrier → Bool) (k : Cause) (q : WakeClass)
    (hw : ∀ (t : State) (e : Carrier), (∀ f, (t.carrier f).values = (s.carrier f).values) → t.loader = s.loader →
      which t e = which s e) (l : List Carrier) (hl : l.Nodup) (t : State)
    (hv : ∀ f, (t.carrier f).values = (s.carrier f).values) (ho : t.loader = s.loader)
    (hc : ∀ f ∈ l, t.carrier f = s.carrier f) :
    EnteredSettled t (l.foldl (fun s c => if which s c then s.wake c k q else s) t)
      (l.filter fun c => which s c && (s.carrier c).state == .deep) := by
  induction l generalizing t with
  | nil => exact SameAtArbiter.enteredSettled ⟨fun _ => rfl, fun _ => rfl, rfl, rfl⟩ rfl
  | cons c l ih =>
    rw [List.nodup_cons] at hl
    rw [List.foldl_cons, hw t c hv ho]
    have found := hc c List.mem_cons_self
    have others : ∀ f ∈ l, t.carrier f = s.carrier f := fun f hf => hc f (List.mem_cons_of_mem _ hf)
    by_cases picked : which s c = true
    · have woken := wake_entered t c k q
      have rest := ih hl.2 (t.wake c k q) (fun f => (woken.1.values f).trans (hv f)) ((wake_changes t c k q).loader.trans ho)
        (fun f hf => by rw [wake_carrier, if_neg (ne_of_mem_of_not_mem hf hl.1).symm, others f hf])
      have whole := woken.trans rest
      rw [if_pos picked]
      rw [found] at whole
      by_cases deep : (s.carrier c).state = .deep <;> simpa [List.filter_cons, picked, deep] using whole
    · rw [if_neg picked, List.filter_cons_of_neg (by simp [picked])]
      exact ih hl.2 t hv ho others

theorem wakeAll_entered (s : State) (which : State → Carrier → Bool) (k : Cause) (q : WakeClass)
    (hw : ∀ (t : State) (e : Carrier), (∀ f, (t.carrier f).values = (s.carrier f).values) → t.loader = s.loader →
      which t e = which s e) : EnteredSettled s (s.wakeAll which k q) (deepOf s (which s)) :=
  wakeFold_entered s which k q hw carriers carriers_nodup s (fun _ => rfl) rfl (fun _ _ => rfl)

theorem takeFailSafe_entered (s : State) (f : FailSafe) : EnteredSettled s (s.takeFailSafe f) (deepOf s s.isCapacity) :=
  wakeAll_entered s State.isCapacity _ _ fun t e hv _ => by rw [State.isCapacity, State.isCapacity, hv]

/-- Entries made and taken in, seen from a state and to a state that differ in what the arbiter's work does not touch. -/
theorem EnteredSettled.entriesTaken {s u v t : State} {before after : List Due} {made : List Carrier} (h : EnteredSettled u v made)
    (start : u.arbiter = s.arbiter) (due : u.due = before) (same : SameAtArbiter v t) (rest : t.due = v.due ++ after)
    (law : WakeLaw s → WakeLaw t) : EntriesTaken s t before after made := by
  obtain ⟨⟨hv, hg, ho, granted, hd, hc, hs, hr, hp⟩, settled⟩ := h
  have found : ∀ key : Carrier × Nat, key ∈ u.arbiter.queue.map WakeEntry.key ++ newKeys u.arbiter.ordinal made →
      ∃ f ∈ granted ++ t.arbiter.queue, f.carrier = key.1 ∧ f.ordinal = key.2 := fun key hkey => by
    obtain ⟨f, hf, rfl⟩ := List.mem_map.mp (hp.symm.mem_iff.mp hkey)
    exact ⟨f, by rw [same.arbiter]; exact hf, rfl, rfl⟩
  rw [start] at ho hc hs hr found
  refine ⟨by rw [same.arbiter, ho], granted, ?_, ?_, ?_, hr, ?_, ?_, ?_, ?_, ?_⟩
  · rw [rest, hd, due]
  · rw [same.arbiter, hc]
    simp only [same.values, hv]
  · rw [same.arbiter, hs, same.globals, hg]
  · have := hp.length_eq
    rw [List.length_map, List.length_append, List.length_append, List.length_map, newKeys, List.length_mapIdx, start] at this
    rw [same.arbiter, List.length_append]
    exact this
  · exact fun i c hi => found (c, s.arbiter.ordinal + (i + 1)) (List.mem_append_right _ (mem_newKeys hi))
  · exact fun e he => found e.key (List.mem_append_left _ (List.mem_map_of_mem he))
  · intro hw f hf
    obtain ⟨-, -, -, cls, -⟩ := law hw
    exact cls f hf
  · exact fun hm => same.settled (settled (.inl hm))

theorem SameAtArbiter.refl (s : State) : SameAtArbiter s s := ⟨fun _ => rfl, fun _ => rfl, rfl, rfl⟩

theorem wakeLaw_keeps {s t : State} (h : QueueLaw False s → QueueLaw False t) (hs : WakeLaw s) : WakeLaw t :=
  (wakeLaw_iff t).mp (h ((wakeLaw_iff s).mpr hs))

/-- Settles O10: the wake of all present capacity carriers, by what a wake does to a carrier, to the report and to the arbiter. -/
theorem failSafeWakesSleepers : Obligations.FailSafeWakesSleepers := by
  intro s cause rest hq h
  refine ⟨State.takeFailSafe { s with due := rest } cause, ?_, fun c => takeFailSafe_carrier _ c cause, fun c hc => ?_, ?_, ?_, ?_⟩
  · rw [exec, execFailSafeWake, settleAtOnce_quiet hq, takeNamed_found h]; rfl
  · rw [takeFailSafe_carrier, if_pos (by exact hc)]
    exact woken_awake _ _
  · cases cause <;> exact wakeAll_report _ _ _ _ (fun t e hv _ => by rw [State.isCapacity, State.isCapacity, hv])
  · refine (takeFailSafe_entered { s with due := rest } cause).entriesTaken rfl rfl (.refl _) (by simp) (wakeLaw_keeps fun law => ?_)
    exact (QueueLaw.wakes False).takeFailSafe cause (law.congr (fun _ => ⟨rfl, rfl⟩) rfl rfl rfl (grantsOutstanding_rest h rfl))
  · exact (dropDue_changes s rest).seq (takeFailSafe_changes _ cause)

/-! ### The loss of an anchor -/

section Lost

variable {s : State} {c : Carrier} (anchor : s.isAnchor c = true)
include anchor

/-- The capacity carriers beside an anchor do not change as it is lost. -/
theorem beside_anchor {d : Carrier} {k : Nat} (h : (s.isCapacity d && (s.carrier d).values.sector == k) = true) : c ≠ d := by
  rintro rfl
  rw [State.isAnchor] at anchor
  rw [State.isCapacity] at h
  cases hr : (s.carrier c).values.role <;> simp_all

/-- The records and the sleepers of the sector are found the same once the anchor has entered FAULTED. -/
theorem wakeBodies_beside (k : Nat) (cause : Cause) (cls : WakeClass) :
    let beside : Carrier → Bool := fun d => s.isCapacity d && (s.carrier d).values.sector == k
    wakeBodies (s.transition c .faulted .readyLost none) beside cause cls = wakeBodies s beside cause cls
      ∧ deepOf (s.transition c .faulted .readyLost none) beside = deepOf s beside := by
  intro beside
  have other : ∀ d, beside d = true → (s.transition c .faulted .readyLost none).carrier d = s.carrier d := fun d hd => by
    rw [transition_carrier, if_neg (beside_anchor anchor hd)]
  refine ⟨List.filterMap_congr fun d hd => ?_, List.filter_congr fun d _ => ?_⟩
  · rw [other d (List.mem_filter.mp hd).2]
  · by_cases hd : beside d = true
    · rw [other d hd]
    · simp [hd]

end Lost

/-- Settles O8: the loss is one transition and the wake of the capacity carriers beside. -/
theorem anchorLostCascade : Obligations.AnchorLostCascade := by
  intro s c hq high senses anchor on
  let low := s.setReady c false
  let u := low.transition c .faulted .readyLost none
  let k := (s.carrier c).values.sector
  have changed : OnlyChanges s u [.readyLines, .controller, .report] :=
    (setReady_changes s c false).seq (transition_changes_plain low c .faulted .readyLost none (by simp))
  have record : ∀ d, u.carrier d = if c = d then { s.carrier c with state := .faulted } else s.carrier d :=
    fun d => transition_carrier low c d .faulted .readyLost none
  have values : ∀ d, (u.carrier d).values = (s.carrier d).values := fun d => by
    rw [record]
    split
    · next e => rw [e]
    · rfl
  have beside : ∀ d, (u.isCapacity d && (u.carrier d).values.sector == k) = (s.isCapacity d && (s.carrier d).values.sector == k) :=
    fun d => by rw [State.isCapacity, State.isCapacity, values]
  have woken : ∀ d, (u.cascade k).carrier d =
      if (s.isCapacity d && (s.carrier d).values.sector == k) = true then (s.carrier d).woken .urgent else u.carrier d := fun d => by
    rw [cascade_carrier, ← beside]
    simp only [Bool.and_eq_true, beq_iff_eq]
    split
    · next h =>
      rw [record, if_neg (beside_anchor anchor (d := d) (k := k) (by rw [← beside]; simpa using h))]
    · rfl
  have picks : ∀ (t : State) (e : Carrier), (∀ f, (t.carrier f).values = (u.carrier f).values) → t.loader = u.loader →
      (t.isCapacity e && (t.carrier e).values.sector == k) = (u.isCapacity e && (u.carrier e).values.sector == k) :=
    fun t e hv _ => by rw [State.isCapacity, State.isCapacity, hv]
  let side : Carrier → Bool := fun d => s.isCapacity d && (s.carrier d).values.sector == k
  obtain ⟨bodies, deep⟩ : wakeBodies u side .anchorLost .urgent = wakeBodies s side .anchorLost .urgent
      ∧ deepOf u side = deepOf s side := wakeBodies_beside (s := low) (c := c) anchor k .anchorLost .urgent
  refine ⟨u.cascade k, ?_, ?_, fun d hd hk => ?_, fun d hd out => ?_, ?_, ?_⟩
  · rw [exec, execReadyFall, settleAtOnce_quiet hq, State.takeReadyFall, if_pos (by simp [high, senses, on, CarrierState.serving]),
      State.readyLost, if_pos (by exact anchor)]
    rfl
  · rw [woken, if_neg (fun h => beside_anchor anchor h rfl), record, if_pos rfl]
  · rw [woken, if_pos (by simp [hd, hk, k])]
    exact ⟨rfl, woken_awake _ _⟩
  · rw [woken, if_neg (by obtain h | h := out <;> simp [h, k]), record, if_neg (Ne.symm hd)]
  · rintro _ rfl
    refine ⟨?_, EnteredSettled.entriesTaken (u := u) (v := u.cascade k) ?_ changed.arbiter changed.due (.refl _) (by simp) ?_⟩
    · rw [State.cascade, wakeAll_report u _ _ _ picks, handAll_timer _ _ changed.timer]
      rw [show u.report = _ from transition_handed low c .faulted .readyLost none, handAll_cons]
      simp only [beside]
      rw [bodies, show (low.carrier c).state = .on from on]
      rfl
    · change EnteredSettled u (u.cascade k) (deepOf s side)
      rw [← deep]
      have := wakeAll_entered u _ .anchorLost .urgent picks
      simp only [beside] at this
      exact this
    · refine wakeLaw_keeps fun law => ?_
      have lost := (law.congr (t := low) (fun _ => ⟨rfl, rfl⟩) rfl rfl rfl rfl).readyLost (c := c)
        (by rw [show (low.carrier c).state = .on from on]; rfl)
      rw [State.readyLost, if_pos (by exact anchor)] at lost
      exact lost
  · exact changed.seq (wakeAll_changes u _ _ _)

end Sys2Proof.Machine
end

section
/-! PROOF. The Transit Path's port (O22 to O27): whom the arbiter serves, what a request taken does, and what a response does. -/

namespace Sys2Proof.Machine

/-! ### Records handed one after the other -/

section HandAll

variable (u : ReportUnit) (s : State) (l : List RecordBody)

/-- What every record handed keeps, all of them keep. -/
theorem handAll_keeps {α : Type} (f : ReportUnit → α) (h : ∀ u r, f (ReportUnit.hand u r) = f u) : f (u.handAll s l) = f u := by
  induction l generalizing u with
  | nil => rfl
  | cons b l ih => rw [handAll_cons, ih, h]

@[simp] theorem handAll_ring : (u.handAll s l).ring = u.ring := handAll_keeps u s l _ reportHand_ring
@[simp] theorem handAll_producer : (u.handAll s l).producer = u.producer := handAll_keeps u s l _ reportHand_producer
@[simp] theorem handAll_consumer : (u.handAll s l).consumer = u.consumer := handAll_keeps u s l _ reportHand_consumer
@[simp] theorem handAll_updateOwed : (u.handAll s l).updateOwed = u.updateOwed := handAll_keeps u s l _ reportHand_updateOwed
@[simp] theorem handAll_inFlightRecords : (u.handAll s l).inFlightRecords = u.inFlightRecords :=
  handAll_keeps u s l _ reportHand_inFlightRecords
@[simp] theorem handAll_latch : (u.handAll s l).latch = u.latch := handAll_keeps u s l _ reportHand_latch

/-- The records admitted stand behind the writes pending before, each made of one of the bodies handed. -/
theorem handAll_pending : ∃ later, (u.handAll s l).pending = u.pending ++ later
    ∧ ∀ w ∈ later, ∃ gap, ∃ b ∈ l, w = .ringRecord gap (s.makeRecord s.timer.windowNumber b) := by
  induction l generalizing u with
  | nil => exact ⟨[], by simp⟩
  | cons b l ih =>
    obtain ⟨later, hl, made⟩ := ih (u.hand (s.makeRecord s.timer.windowNumber b))
    have behind : ∀ w ∈ later, ∃ gap, ∃ c ∈ b :: l, w = .ringRecord gap (s.makeRecord s.timer.windowNumber c) := fun w hw => by
      obtain ⟨gap, c, hc, rfl⟩ := made w hw
      exact ⟨gap, c, List.mem_cons_of_mem _ hc, rfl⟩
    rw [handAll_cons, hl]
    obtain same | ⟨-, more⟩ := reportHand_pending u (s.makeRecord s.timer.windowNumber b)
    · exact ⟨later, by rw [same], behind⟩
    · refine ⟨.ringRecord u.gap (s.makeRecord s.timer.windowNumber b) :: later, by rw [more]; simp, fun w hw => ?_⟩
      obtain rfl | hw := List.mem_cons.mp hw
      · exact ⟨_, b, List.mem_cons_self, rfl⟩
      · exact behind w hw

end HandAll

/-! ### The arbiter's choice -/

theorem slotFree_iff (s : State) : s.slotFree = true ↔ s.transit.inFlight.length < 32 ∧ s.transit.owedAnswers = 0 := by
  rw [State.slotFree, Bool.and_eq_true, decide_eq_true_eq, decide_eq_true_eq, Config.inFlightLimit]

theorem reportWaits_iff (s : State) : s.reportWaits = true ↔ s.report.ring.isSome = true ∧ s.report.pending ≠ [] := by
  simp [State.reportWaits]

theorem arbitrate_none {s : State} (h : s.arbiterChoice = none) (side : Side) : s.arbitrate side = s := by
  rw [State.arbitrate, h]

/-- The side named has the turn at once. -/
theorem arbitrate_first {s : State} {side : Side} (h : s.arbiterChoice = some side) : s.arbitrate side = s.grantSide side := by
  rw [State.arbitrate, h]
  exact if_pos rfl

/-- The other side is granted first, and then the side named has the turn where the slot is still free. -/
theorem arbitrate_second {s : State} {first side : Side} (h : s.arbiterChoice = some first) (hne : first ≠ side)
    (next : (s.grantSide first).arbiterChoice = none ∨ (s.grantSide first).arbiterChoice = some side) :
    s.arbitrate side = (s.grantSide first).arbitrate side := by
  rw [State.arbitrate, h]
  dsimp only
  rw [if_neg hne]
  obtain h | h := next
  · rw [h, arbitrate_none h]
  · rw [h, arbitrate_first h]

theorem choice_none {s : State} (h : s.slotFree = false) : s.arbiterChoice = none := by simp [State.arbiterChoice, h]

theorem choice_upstream {s : State} (free : s.slotFree = true) (hw : s.transit.waiting ≠ [])
    (h : s.reportWaits = false ∨ s.transit.turn = .report) : s.arbiterChoice = some .upstream := by
  have waits : s.transit.waiting.isEmpty = false := by simpa using hw
  rw [State.arbiterChoice, if_pos free, waits]
  obtain h | h := h <;> cases hr : s.reportWaits <;> simp_all

theorem choice_report {s : State} (free : s.slotFree = true) (hr : s.reportWaits = true)
    (h : s.transit.waiting = [] ∨ s.transit.turn = .upstream) : s.arbiterChoice = some .report := by
  rw [State.arbiterChoice, if_pos free, hr]
  obtain h | h := h <;> cases hw : s.transit.waiting <;> simp_all

theorem choice_idle {s : State} (hw : s.transit.waiting = []) (hr : s.reportWaits = false) : s.arbiterChoice = none := by
  simp [State.arbiterChoice, hw, hr]

/-- With the upstream side next, a request presented now is the one taken. -/
theorem arbitrate_presented {s : State} (h : UpstreamNext s) (r : Request) : (s.present r).arbitrate .upstream = s.takeRequest r := by
  obtain ⟨none, free, next⟩ := h
  have choice : (s.present r).arbiterChoice = some .upstream := choice_upstream free (by simp) next
  have waiting : (s.present r).transit.waiting = [r] := by simp [none]
  rw [arbitrate_first choice, State.grantSide, waiting]
  show State.takeRequest { s.present r with transit := { (s.present r).transit with waiting := [] } } r = _
  rw [show { s.present r with transit := { (s.present r).transit with waiting := [] } } = s by rw [← none]; rfl]

theorem exec_presented {s : State} (hq : Quiet s) (h : UpstreamNext s) (r : Request) :
    exec (.upstreamRequest (some r)) s = .next (s.takeRequest r) := by
  rw [exec, execUpstreamRequest, settleAtOnce_quiet hq, arbitrate_presented h]

/-! ### A request taken -/

/-- The upstream side has had the turn. -/
def State.turned (s : State) : State := { s with transit := { s.transit with turn := .upstream } }

theorem takeRequest_refused {s : State} {r : Request} (h : requestFaults r s.transit ≠ []) :
    s.takeRequest r = s.turned.refuseRequest r (requestFaults r s.transit) := if_neg h

theorem takeRequest_forwarded {s : State} {r : Request} (h : requestFaults r s.transit = []) :
    s.takeRequest r = s.turned.forwardRequest r := if_pos h

theorem takeRequest_read {s : State} {r : Request} (h : requestFaults r s.transit = []) (hk : r.kind = .read) :
    s.takeRequest r = (s.turned.send r).appendEntry (upstreamEntry r .forwarded (s.blankMask r)) := by
  rw [takeRequest_forwarded h, State.forwardRequest, hk]
  rfl

theorem takeRequest_write {s : State} {r : Request} (h : requestFaults r s.transit = []) (hk : r.kind = .write) :
    s.takeRequest r = ((s.turned.send r).handWrite r).appendEntry (upstreamEntry r .forwarded none) := by
  rw [takeRequest_forwarded h, State.forwardRequest, hk]

theorem takeRequest_transit (s : State) (r : Request) : (s.takeRequest r).transit.turn = .upstream
    ∧ (s.takeRequest r).transit.waiting = s.transit.waiting := by
  by_cases h : requestFaults r s.transit = []
  · cases hk : r.kind with
    | read => rw [takeRequest_read h hk]; exact ⟨rfl, rfl⟩
    | write =>
      have := (handWrite_changes (s.turned.send r) r).transit
      rw [takeRequest_write h hk, appendEntry_transit, this]
      exact ⟨rfl, rfl⟩
  · rw [takeRequest_refused h]
    exact ⟨rfl, rfl⟩

/-! ### The arbiter serves a request that waits -/

/-- No event taken at once comes of a request taken. -/
theorem quiet_requests : RequestsKeep Quiet where
  turn _ _ hs := hs
  send _ _ hs := hs
  forwarded _ _ _ _ hs := hs
  refused _ _ _ _ hs := hs
  latchFault _ _ hs := hs
  handDescriptor s c m a b _ _ hs := by
    rw [State.handDescriptor.eq_def]
    split
    · exact hs
    · exact hs
    · refine ite_keeps (fun d hd => ?_) hs
      obtain hd | hd := List.mem_append.mp hd
      · exact hs d hd
      · rw [List.mem_singleton.mp hd]; rfl
  merge _ _ _ hs := hs
  heartbeatWord s hs := by rw [Quiet, (heartbeatWord_changes s).due]; exact hs
  consumerWord s a hs := by rw [Quiet, (consumerWord_changes s a).due]; exact hs
  clockSetWord s a hs := by rw [Quiet, (clockSetWord_changes s a).due]; exact hs
  keepAwakeWord s m hs := by
    obtain ⟨l, hl⟩ := wakeAll_addsGrants s (fun s c => s.isCapacity c && !mirrorKeepAwake m c && s.keepAwake c) .keepAwake .routine
    intro d hd
    rw [State.keepAwakeWord, hl] at hd
    obtain hd | hd := List.mem_append.mp hd
    · exact hs d hd
    · obtain ⟨c, -, rfl⟩ := List.mem_map.mp hd
      rfl

/-- The records that a keep-awake mask makes. -/
theorem keepAwakeWord_report (s : State) (m : Memory) : (s.keepAwakeWord m).report =
    s.report.handAll s (wakeBodies s (fun c => s.isCapacity c && !mirrorKeepAwake m c && s.keepAwake c) .keepAwake .routine) :=
  wakeAll_report s _ _ _ fun t c hv hl => by rw [State.isCapacity, State.isCapacity, State.keepAwake, State.keepAwake, hv, hl]

/-- A report write that waits is not taken away by a request. -/
theorem reportWaits_requests : RequestsKeep (fun s => s.report.ring.isSome = true ∧ s.report.pending ≠ []) where
  turn _ _ hs := hs
  send _ _ hs := hs
  forwarded _ _ _ _ hs := hs
  refused _ _ _ _ hs := hs
  latchFault _ _ hs := hs
  handDescriptor s c m a b _ _ hs := by
    rw [State.handDescriptor.eq_def]
    split
    · exact hs
    · exact hs
    · exact ite_keeps (P := fun s => s.report.ring.isSome = true ∧ s.report.pending ≠ []) hs hs
  merge _ _ _ hs := hs
  heartbeatWord s hs := by
    have handed : ∀ u : State, u.report = s.report → (u.hand (.heartbeat .alive)).report.ring.isSome = true
        ∧ (u.hand (.heartbeat .alive)).report.pending ≠ [] := fun u hu => by
      rw [hand_report, reportHand_ring, hu]
      refine ⟨hs.1, ?_⟩
      obtain h | ⟨-, h⟩ := reportHand_pending s.report (u.makeRecord u.timer.windowNumber (.heartbeat .alive))
      · rw [h]; exact hs.2
      · rw [h]; simp
    rw [State.heartbeatWord.eq_def]
    split
    · exact hs
    · dsimp only
      split
      · exact hs
      · exact handed _ rfl
  consumerWord s a hs := by
    rw [State.consumerWord.eq_def]
    split
    · exact hs
    · exact ite_keeps (P := fun s => s.report.ring.isSome = true ∧ s.report.pending ≠ []) hs hs
  clockSetWord s a hs := by
    rw [State.clockSetWord]
    exact ite_keeps (P := fun s => s.report.ring.isSome = true ∧ s.report.pending ≠ []) hs
      (ite_keeps (P := fun s => s.report.ring.isSome = true ∧ s.report.pending ≠ []) hs hs)
  keepAwakeWord s m hs := by
    rw [keepAwakeWord_report, handAll_ring]
    obtain ⟨later, hl, -⟩ := handAll_pending s.report s
      (wakeBodies s (fun c => s.isCapacity c && !mirrorKeepAwake m c && s.keepAwake c) .keepAwake .routine)
    rw [hl]
    exact ⟨hs.1, List.append_ne_nil_of_left_ne_nil hs.2 _⟩

theorem grantReport_granted {s : State} (h : s.reportWaits = true) :
    ∃ w r rest, s.report.pending = w :: rest ∧ s.grantReport = (State.send { s with
      transit := { s.transit with turn := .report }
      report := s.report.granted w rest } r).appendEntry (ownEntry w r) := by
  rw [reportWaits_iff] at h
  obtain ⟨ring, hring⟩ := Option.isSome_iff_exists.mp h.1
  cases hp : s.report.pending with
  | nil => exact absurd hp h.2
  | cons w rest => exact ⟨w, s.report.request ring w, rest, rfl, by rw [State.grantReport, hring, hp]⟩

/-- Both sides wait: after the upstream side's turn the report side has the next, if the slot is still free. -/
theorem upstream_then_report {s : State} (hq : Quiet s) (free : s.slotFree = true) (hw : s.transit.waiting ≠ [])
    (hr : s.reportWaits = true) (turn : s.transit.turn = .report) :
    ∃ u, exec (.upstreamRequest none) s = .next u ∧ u.transit.turn = .upstream ∧ u.transit.waiting = s.transit.waiting.tail
      ∧ exec .reportGrant s = exec .reportGrant u := by
  have choice := choice_upstream free hw (.inr turn)
  have short := (slotFree_iff s).mp free
  cases hl : s.transit.waiting with
  | nil => exact absurd hl hw
  | cons r rest =>
    let v : State := { s with transit := { s.transit with waiting := rest } }
    have served : s.grantSide .upstream = v.takeRequest r := by rw [State.grantSide, hl]
    obtain ⟨turned, left⟩ := takeRequest_transit v r
    have waits : (v.takeRequest r).reportWaits = true :=
      (reportWaits_iff _).mpr (reportWaits_requests.takeRequest (s := v) r short.1 ((reportWaits_iff s).mp hr))
    refine ⟨v.takeRequest r, ?_, turned, left, ?_⟩
    · rw [exec, execUpstreamRequest, settleAtOnce_quiet hq, arbitrate_first choice, served]
    · rw [exec, exec, execReportGrant, execReportGrant, settleAtOnce_quiet hq,
        settleAtOnce_quiet (quiet_requests.takeRequest (s := v) r short.1 hq), ← served,
        arbitrate_second choice (by decide)]
      rw [served]
      cases hf : (v.takeRequest r).slotFree with
      | false => exact .inl (choice_none hf)
      | true => exact .inr (choice_report hf waits (.inr turned))

/-- Both sides wait: after the report side's turn the upstream side has the next, if the slot is still free. -/
theorem report_then_upstream {s : State} (hq : Quiet s) (free : s.slotFree = true) (hw : s.transit.waiting ≠ [])
    (hr : s.reportWaits = true) (turn : s.transit.turn = .upstream) :
    ∃ u, exec .reportGrant s = .next u ∧ u.transit.turn = .report ∧ u.transit.waiting = s.transit.waiting
      ∧ exec (.upstreamRequest none) s = exec (.upstreamRequest none) u := by
  have choice := choice_report free hr (.inr turn)
  obtain ⟨w, r, rest, -, granted⟩ := grantReport_granted hr
  have turned : s.grantReport.transit.turn = .report := by rw [granted]; rfl
  have left : s.grantReport.transit.waiting = s.transit.waiting := by rw [granted]; rfl
  have quiet : Quiet s.grantReport := by rw [Quiet, (grantReport_changes s).due]; exact hq
  refine ⟨s.grantReport, ?_, turned, left, ?_⟩
  · rw [exec, execReportGrant, settleAtOnce_quiet hq, arbitrate_first choice]; rfl
  · rw [exec, exec, execUpstreamRequest, execUpstreamRequest, settleAtOnce_quiet hq, settleAtOnce_quiet quiet,
      arbitrate_second choice (by decide)]
    · rfl
    · show s.grantReport.arbiterChoice = none ∨ s.grantReport.arbiterChoice = some .upstream
      cases hf : s.grantReport.slotFree with
      | false => exact .inl (choice_none hf)
      | true => exact .inr (choice_upstream hf (left ▸ hw) (.inr turned))

/-- Settles O22, by the arbiter's choice in each case. -/
theorem waitingRequestServed : Obligations.WaitingRequestServed := by
  intro s hq
  have settled := settleAtOnce_quiet hq
  have idle : s.arbiterChoice = none → s.arbiterChoice = none ∧ exec .reportGrant s = .next s
      ∧ exec (.upstreamRequest none) s = .next s := fun h => by
    refine ⟨h, ?_, ?_⟩
    · rw [exec, execReportGrant, settled, arbitrate_none h]
    · rw [exec, execUpstreamRequest, settled, arbitrate_none h]
  have quiet : s.report.ring = none ∨ s.report.pending = [] → s.reportWaits = false := fun h => by
    obtain h | h := h <;> simp [State.reportWaits, h]
  refine ⟨fun full => ?_, fun short owed => ?_, fun short owed hw hr hp => ?_, fun r => ?_, fun beat data => ?_, fun v e => ⟨?_, ?_⟩,
    fun v e => ?_, fun v e => ?_⟩
  · have busy : s.slotFree = false := by
      rw [← Bool.not_eq_true, slotFree_iff]
      obtain h | h := full
      · omega
      · exact fun k => h k.2
    obtain ⟨none, grant, take⟩ := idle (choice_none busy)
    refine ⟨none, grant, take, fun r => ?_⟩
    rw [exec, execUpstreamRequest, settled, arbitrate_none (s := s.present r) (choice_none busy)]
    rfl
  · have free := (slotFree_iff s).mpr ⟨short, owed⟩
    refine ⟨fun hw h => choice_upstream free hw (.inl (quiet h)),
      fun hw hr hp => choice_report free ((reportWaits_iff s).mpr ⟨hr, hp⟩) (.inl hw), fun hw hr hp => ?_,
      fun hw h => idle (choice_idle hw (quiet h))⟩
    have waits := (reportWaits_iff s).mpr ⟨hr, hp⟩
    cases ht : s.transit.turn with
    | report => exact choice_upstream free hw (.inr ht)
    | upstream => exact choice_report free waits (.inr ht)
  · have free := (slotFree_iff s).mpr ⟨short, owed⟩
    have waits := (reportWaits_iff s).mpr ⟨hr, hp⟩
    exact ⟨upstream_then_report hq free hw waits, report_then_upstream hq free hw waits⟩
  · rw [exec, exec, execUpstreamRequest, execUpstreamRequest, settled, settleAtOnce_quiet (s := s.present r) hq]
  · rw [exec, exec, execPolicyWrite, execUpstreamRequest, settled]
    rfl
  all_goals rfl

/-! ### Blocks, classes and faults -/

theorem crossesBlock_iff (r : Request) : crossesBlock r = true ↔ 64 < r.address.toNat % 64 + 8 * r.count := by simp [crossesBlock]

theorem mem_testFault {met : Bool} {k j : FaultKind} : j ∈ testFault met k ↔ met = true ∧ j = k := by
  cases met <;> simp [testFault]

theorem contains_blockClasses (r : Request) (t : TransitPath) (k : BlockClass) :
    (blockClasses r t).contains k = true ↔ TouchesClass r t k := by
  rw [blockClasses, TouchesClass, ← crossesBlock_iff]
  cases crossesBlock r with
  | false => simp [eq_comm (a := k)]
  | true => simp [eq_comm (a := k)]

/-- The conditions that a request meets, each by its own test (R47). -/
theorem mem_requestFaults (r : Request) (t : TransitPath) (k : FaultKind) : k ∈ requestFaults r t ↔
    (r.master = 7 ∧ k = .reservedMaster) ∨ (64 < r.address.toNat % 64 + 8 * r.count ∧ k = .blockCross)
      ∨ ((r.kind = .write ∧ TouchesClass r t .policy ∧ r.master ≠ t.policyMaster) ∧ k = .foreignPolicy)
      ∨ ((r.kind = .write ∧ TouchesClass r t .report) ∧ k = .reportWrite) := by
  rw [requestFaults, List.mem_append, List.mem_append, List.mem_append, mem_testFault, mem_testFault, mem_testFault, mem_testFault,
    crossesBlock_iff, Bool.and_eq_true, Bool.and_eq_true, Bool.and_eq_true, contains_blockClasses, contains_blockClasses]
  simp only [beq_iff_eq, bne_iff_ne, Config.ownMaster, and_assoc, or_assoc]

/-- Settles O23, by the remainders modulo 64. -/
theorem blockRule : Obligations.BlockRule := by
  intro r t wf
  simp only [Request.wellFormed, countInRange, Bool.and_eq_true, decide_eq_true_eq] at wf
  obtain ⟨⟨⟨-, beats⟩, -⟩, -⟩ := wf
  refine ⟨crossesBlock_iff r, fun a low high => ?_, fun cross => ?_, ?_, fun cross => by rw [blockClasses, if_pos cross]⟩
  · rw [crossesBlock_iff, blockOf, blockOf]
    omega
  · rw [crossesBlock_iff] at cross
    refine ⟨blockOf r.address.toNat + 64, ?_, ?_, ?_⟩ <;> simp only [blockOf] <;> omega
  · rw [mem_requestFaults, crossesBlock_iff]
    simp only [reduceCtorEq, and_false, and_true, or_false, false_or]

/-! ### A request refused -/

/-- A class names its window index, and NONE the one of what follows. -/
theorem indexNamed_or (k : BlockClass) (o : Option Nat) : IndexNamed k (k.index.or o) o := by
  cases k <;> rfl

theorem classify_of_first {t : TransitPath} {block : Nat} {before after : List Window} {w : Window} (h : t.windows = before ++ w :: after)
    (out : ∀ v ∈ before, ¬(v.base ≤ block ∧ block < v.base + v.size)) (low : w.base ≤ block) (high : block < w.base + w.size) :
    t.classify block = classOfIndex w.index := by
  have none : before.find? (fun w => w.contains block) = none :=
    List.find?_eq_none.mpr fun v hv => by simpa [Window.contains] using out v hv
  have found : w.contains block = true := by simp [Window.contains, low, high]
  rw [TransitPath.classify, h, List.find?_append, none, Option.none_or, List.find?_cons, found]

theorem refuseRequest_answered {s : State} {r : Request} {kinds : List FaultKind} (h : s.transit.inFlight = []) :
    (s.refuseRequest r kinds).transit = s.transit
      ∧ (s.refuseRequest r kinds).outside.givenUpstream =
        s.outside.givenUpstream ++ [localAnswer (upstreamEntry r .localAnswer none)] := by
  have entries : splitLocals (s.transit.inFlight ++ [upstreamEntry r .localAnswer none]) = ([upstreamEntry r .localAnswer none], []) := by
    rw [h]; rfl
  simp only [State.refuseRequest, State.answerLocals, appendEntry_transit, latchFault_transit, entries, appendEntry_outside,
    latchFault_outside]
  exact ⟨by rw [← h], rfl⟩

theorem refuseRequest_queued {s : State} {r : Request} {kinds : List FaultKind} {e : InFlight} {rest : List InFlight}
    (h : s.transit.inFlight = e :: rest) (he : e.disposition = .forwarded) :
    (s.refuseRequest r kinds).transit = { s.transit with inFlight := s.transit.inFlight ++ [upstreamEntry r .localAnswer none] }
      ∧ (s.refuseRequest r kinds).outside.givenUpstream = s.outside.givenUpstream := by
  have entries : splitLocals (s.transit.inFlight ++ [upstreamEntry r .localAnswer none]) =
      ([], s.transit.inFlight ++ [upstreamEntry r .localAnswer none]) := by
    rw [h, List.cons_append, splitLocals, he]
  simp only [State.refuseRequest, State.answerLocals, appendEntry_transit, latchFault_transit, entries, appendEntry_outside,
    latchFault_outside]
  exact ⟨trivial, by simp⟩

/-- Settles O24: the class of a block by the first window that contains it, the conditions test by test, and the taking of a
refused request by what is in flight. -/
theorem refusedRequest : Obligations.RefusedRequest := by
  refine ⟨fun t block => ⟨fun out => ?_, fun before after w h out low high => ?_⟩, fun r t => ⟨?_, ?_, ?_, ?_, fun k hk => ?_, ?_⟩,
    fun s r hq next hf => ?_⟩
  · rw [TransitPath.classify, List.find?_eq_none.mpr fun w hw => by simpa [Window.contains] using out w hw]
  · rw [classify_of_first h out low high]
    refine ⟨fun c hc => ?_, fun hi => ?_, fun hi => ?_⟩
    · rw [hc, classOfIndex, dif_pos c.isLt]
    · rw [hi]; rfl
    · rw [hi]; rfl
  · simp only [mem_requestFaults, reduceCtorEq, and_false, and_true, or_false]
  · simp only [mem_requestFaults, reduceCtorEq, and_false, and_true, or_false, false_or]
  · simp only [mem_requestFaults, reduceCtorEq, and_false, and_true, or_false, false_or]
  · simp only [mem_requestFaults, reduceCtorEq, and_false, and_true, false_or]
  · rw [mem_requestFaults] at hk
    obtain ⟨-, h⟩ | ⟨-, h⟩ | ⟨-, h⟩ | ⟨-, h⟩ := hk <;> simp [h]
  · let second := if crossesBlock r = true then (t.classify (blockOf r.address.toNat + 64)).index else none
    have index : requestWindow r t = (t.classify (blockOf r.address.toNat)).index.or second := by
      rw [requestWindow, blockClasses]
      cases hc : crossesBlock r <;> cases hi : (t.classify (blockOf r.address.toNat)).index <;> simp [second, hc, hi]
    refine ⟨second, index ▸ indexNamed_or _ _, fun cross => ?_, fun fits => ?_⟩
    · rw [show second = _ from if_pos ((crossesBlock_iff r).mpr cross), ← Option.or_none (o := BlockClass.index _)]
      exact indexNamed_or _ _
    · exact if_neg fun cross => by have := (crossesBlock_iff r).mp cross; omega
  · have changed : OnlyChanges s (s.turned.refuseRequest r (requestFaults r s.transit)) [.transit, .report, .outputs] := by
      intro p hp
      cases p <;> simp_all [SamePart, State.turned, State.refuseRequest, State.answerLocals]
    refine ⟨s.takeRequest r, exec_presented hq next r, ?_⟩
    rw [takeRequest_refused hf]
    refine ⟨rfl, rfl, fun none => ?_, fun e rest hl he => ?_, changed⟩
    · obtain ⟨transit, given⟩ := refuseRequest_answered (s := s.turned) (r := r) (kinds := requestFaults r s.transit) none
      refine ⟨transit, given.trans ?_⟩
      simp only [localAnswer, upstreamEntry]
      cases r.kind <;> rfl
    · exact refuseRequest_queued (s := s.turned) hl he

/-! ### A request forwarded -/

/-- Settles O25: a READ is sent, and its entry marked by the block's carrier. -/
theorem forwardedRead : Obligations.ForwardedRead := by
  intro s r hq next hf hk
  refine ⟨s.takeRequest r, s.blankMask r, exec_presented hq next r, ?_⟩
  rw [takeRequest_read hf hk]
  refine ⟨rfl, rfl, ?_, fun c hc hm dark => ?_, fun out => ?_, ?_⟩
  · rw [appendEntry_transit, upstreamEntry, hk]; rfl
  · rw [State.blankMask, hc]
    exact if_pos ⟨hm, dark⟩
  · rw [State.blankMask.eq_def]
    split
    · next c hc => exact if_neg fun ⟨hm, dark⟩ => (out c hc).elim (absurd hm) (by simp [dark])
    all_goals rfl
  · intro p hp; cases p <;> simp_all [SamePart, State.turned]

/-- A descriptor is examined the same whatever has been sent. -/
theorem handDescriptor_sent (s : State) (r : Request) (c : Carrier) (m : Master) (a : Address) (b : Beat) :
    (s.turned.send r).handDescriptor c m a b = (s.handDescriptor c m a b).turned.send r := by
  rw [State.handDescriptor.eq_def, State.handDescriptor.eq_def]
  cases hx : examine c s.timer.state s.timer.slot b with
  | ignored => rw [show examine c (s.turned.send r).timer.state (s.turned.send r).timer.slot b = _ from hx]
  | refused k => rw [show examine c (s.turned.send r).timer.state (s.turned.send r).timer.slot b = _ from hx]; rfl
  | held =>
    rw [show examine c (s.turned.send r).timer.state (s.turned.send r).timer.slot b = _ from hx]
    let h := heldEntry (s.carrier c).values.rbMax b.data
    let t := s.setHeld c (holdIn s.timer.slot h (s.held c))
    exact (apply_ite (fun t : State => t.turned.send r) (demandRaised (s.carrier c).state h.rb = true)
      (t.addDue (.demand c (descUrgent b.data))) t).symm

theorem handCell_sent (s : State) (q r : Request) (c : Carrier) (cell : Nat) :
    (s.turned.send q).handCell c r cell = (s.handCell c r cell).turned.send q := by
  rw [State.handCell.eq_def, State.handCell.eq_def]
  split
  · exact handDescriptor_sent s q c _ _ _
  · rfl

/-- Settles O26: a WRITE is sent, and handed by its block's class and its master. -/
theorem forwardedWrite : Obligations.ForwardedWrite := by
  intro s r hq next hf hk
  refine ⟨s.takeRequest r, exec_presented hq next r, ?_⟩
  rw [takeRequest_write hf hk]
  have changed := handWrite_changes (s.turned.send r) r
  refine ⟨?_, ?_, ?_, ?_, fun notScheduler notPolicy => ?_⟩
  · exact (changed .outputs (by decide)).1
  · exact (changed .outputs (by decide)).2
  · rw [appendEntry_transit, changed.transit, upstreamEntry, hk]; rfl
  · rintro c _ _ rfl rfl hc hm
    let v := s.handCell c r 0x00
    let w := v.handCell c r 0x20
    have handed : (s.turned.send r).handWrite r = w.turned.send r := by
      have class' : (s.turned.send r).transit.classify (blockOf r.address.toNat) = .descriptor c := hc
      rw [State.handWrite, class']
      dsimp only
      rw [if_pos (by exact hm), handCell_sent, handCell_sent]
    have frame : OnlyChanges s w [.report, .monitor, .due] := (handCell_changes s c r 0).trans (handCell_changes v c r 0x20)
    refine ⟨v, w, fun b h0 hb => ?_, fun h => ?_, fun b hle hb => ?_, fun h => ?_, ?_, ?_, ?_, ?_⟩
    · show s.handCell c r 0 = _
      have found : cellBeat r 0 = some b := by rw [cellBeat, h0, if_pos le_rfl]; exact hb
      rw [State.handCell, found]
      rfl
    · show s.handCell c r 0 = _
      have none : cellBeat r 0 = none := by
        obtain h | h := h
        · exact if_neg (by omega)
        · rw [cellBeat, h]; simp
      rw [State.handCell, none]
    · show v.handCell c r 0x20 = _
      rw [State.handCell, cellBeat, if_pos hle, hb]
      rfl
    · show v.handCell c r 0x20 = _
      have none : cellBeat r 0x20 = none := by
        obtain h | h := h
        · exact if_neg (by omega)
        · rw [cellBeat, List.getElem?_eq_none h, ite_self]
      rw [State.handCell, none]
    all_goals rw [handed]
    · rfl
    · rfl
    · rfl
    · refine frame.seq (m := [.transit, .outputs]) ?_
      intro p hp; cases p <;> simp_all [SamePart, State.turned]
  · have untouched : (s.turned.send r).handWrite r = s.turned.send r := by
      rw [State.handWrite.eq_def]
      split
      · next h => exact if_neg (notPolicy h)
      · next c h => exact if_neg (notScheduler c h)
      all_goals rfl
    rw [untouched]
    intro p hp; cases p <;> simp_all [SamePart, State.turned]

/-! ### Responses -/

/-- Settles O27: the head entry's answer by its origin, and then the local answers behind it. -/
theorem downstreamResponseResult : Obligations.DownstreamResponseResult := by
  intro s status beats hq
  have taken : exec (.downstreamResponse status beats) s = .next (s.takeResponse status beats) := by
    rw [exec, execDownstreamResponse, settleAtOnce_quiet hq]
  refine ⟨fun e rest owed hl he => ?_, fun owed => ?_, fun owed none => ?_⟩
  · have head : s.takeResponse status beats = (s.answerHead e rest status beats).answerLocals := by
      rw [State.takeResponse, if_neg (not_not_intro owed), hl]
      dsimp only
      rw [he]
    let left : State := { s with transit := { s.transit with inFlight := rest } }
    have upstream : e.origin = .upstream → s.answerHead e rest status beats =
        if e.abandoned then left else left.answer (forwardedAnswer e status beats) := fun ho => by
      rw [State.answerHead, ho]
    have own : ∀ form, e.origin = .own form → s.answerHead e rest status beats = left.reportAnswered form status := fun form ho => by
      rw [State.answerHead, ho]
    have reportAlone : ∀ form, OnlyChanges left (left.reportAnswered form status) [.report] := fun form => reportAnswered_changes left form status
    have transit : (s.answerHead e rest status beats).transit = left.transit := by
      cases ho : e.origin with
      | upstream => rw [upstream ho]; split <;> rfl
      | own form => rw [own form ho, (reportAlone form).transit]
    have sent : (s.answerHead e rest status beats).outside.sentDownstream = s.outside.sentDownstream := by
      cases ho : e.origin with
      | upstream => rw [upstream ho]; split <;> rfl
      | own form => rw [own form ho]; exact (reportAlone form .outputs (by decide)).1
    have given : (s.takeResponse status beats).outside.givenUpstream = (s.answerHead e rest status beats).outside.givenUpstream
        ++ ((splitLocals rest).1.filter (fun x => !x.abandoned)).map localAnswer := by
      rw [head, State.answerLocals]
      dsimp only
      rw [transit]
    have report : (s.takeResponse status beats).report = (s.answerHead e rest status beats).report := by rw [head]; rfl
    refine ⟨s.takeResponse status beats, taken, ?_, fun ho kept => ⟨?_, ?_⟩, fun ho kept => ⟨?_, ?_⟩, fun form ho => ⟨?_, fun hf => ?_,
      fun ring hf hring => ?_⟩, ?_, takeResponse_changes s status beats⟩
    · rw [head, State.answerLocals]
      dsimp only
      rw [transit]
    · rw [given, upstream ho, if_neg (by simp [kept])]
      simp only [answer_outside, forwardedAnswer]
      cases status <;> cases e.mask <;> rfl
    · rw [report, upstream ho, if_neg (by simp [kept])]; rfl
    · rw [given, upstream ho, if_pos kept]
    · rw [report, upstream ho, if_pos kept]
    · rw [given, own form ho, (reportAlone form .outputs (by decide)).2]
    · rw [report, own form ho, State.reportAnswered.eq_def]
      split
      · exact absurd rfl hf
      · rfl
    · subst hf
      rw [report, own _ ho, State.reportAnswered.eq_def, show left.report.ring = some ring from hring]
    · rw [head]; exact sent
  · rw [taken, State.takeResponse, if_pos owed]
  · rw [taken, State.takeResponse, if_neg (not_not_intro owed), none]

end Sys2Proof.Machine
end

section
/-! PROOF. The policy master's writes (O40 to O44): a write is merged whole, and each live word that it touches acts by itself. -/

namespace Sys2Proof.Machine

/-! ### The write reaches the Policy Loader -/

/-- The beats of a write merged into the mirror (R137). -/
def State.merged (s : State) (offset : Nat) (data : List Beat) : State :=
  { s with loader := { s.loader with mirror := mergeBeats s.loader.mirror offset data } }

section Open

variable {s : State} {offset : Nat} {data : List Beat} (allowed : PolicyOpen s offset) (low : offset < 2048)
include allowed low

theorem policyRequest_address : (s.policyRequest offset data).address.toNat = s.transit.policyBase + offset := by
  obtain ⟨-, top, -, -⟩ := allowed
  have : s.transit.policyBase + offset < 2 ^ 40 := by omega
  simp only [State.policyRequest, BitVec.toNat_ofNat, Nat.mod_eq_of_lt this]

/-- A write of the policy master within a block of the region meets no condition of R47. -/
theorem policyRequest_faultless (fits : offset % 64 + 8 * data.length ≤ 64) :
    requestFaults (s.policyRequest offset data) s.transit = [] := by
  have address := policyRequest_address (data := data) allowed low
  obtain ⟨own, -, aligned, policy⟩ := allowed
  have inside : ¬64 < (s.policyRequest offset data).address.toNat % 64 + 8 * (s.policyRequest offset data).count := by
    rw [address]
    show ¬64 < (s.transit.policyBase + offset) % 64 + 8 * data.length
    omega
  refine List.eq_nil_iff_forall_not_mem.mpr fun k hk => ?_
  rw [mem_requestFaults] at hk
  obtain ⟨h, -⟩ | ⟨h, -⟩ | ⟨⟨-, -, h⟩, -⟩ | ⟨⟨-, h⟩, -⟩ := hk
  · exact own h
  · exact inside h
  · exact h rfl
  · obtain h | ⟨h, -⟩ := h
    · rw [address, policy] at h; cases h
    · exact inside h

theorem policyWrite_taken (hq : Quiet s) (next : UpstreamNext s) (fits : offset % 64 + 8 * data.length ≤ 64) :
    s.settleAtOnce.policyMasterWrites offset data =
      ((s.turned.send (s.policyRequest offset data)).takePolicyWrite offset (BitVec.ofNat 40 (s.transit.policyBase + offset)) data).appendEntry
        (upstreamEntry (s.policyRequest offset data) .forwarded none) := by
  have policy := allowed.2.2.2
  have address := policyRequest_address (data := data) allowed low
  rw [settleAtOnce_quiet hq, State.policyMasterWrites, arbitrate_presented next,
    takeRequest_write (policyRequest_faultless allowed low fits) rfl, State.handWrite.eq_def, address,
    show (s.turned.send _).transit.classify _ = .policy from policy]
  dsimp only
  rw [if_pos (by rfl), show (s.turned.send _).transit.policyBase = s.transit.policyBase from rfl, Nat.add_sub_cancel_left]
  rfl

end Open

/-! ### The live words -/

section Words

variable (s : State) (a : Address)

/-- A heartbeat code is in force (R147). -/
@[reducible] def State.beats (s : State) : Prop := s.loader.applied.isSome = true ∧ s.globals.heartbeatCode ≠ 0

theorem heartbeatWord_idle (h : ¬s.beats) : s.heartbeatWord = s := by
  rw [State.heartbeatWord.eq_def, if_pos]
  rw [State.beats] at h
  cases ha : s.loader.applied <;> simp_all

theorem heartbeatWord_loader (h : s.beats) :
    s.heartbeatWord.loader = { s.loader with heartbeat := .alive, heartbeatTimer := some 0 } := by
  rw [State.heartbeatWord.eq_def, if_neg]
  · dsimp only
    split <;> rfl
  · obtain ⟨applied, code⟩ := h
    simp [code, Option.isNone_eq_false_iff.mpr applied]

theorem heartbeatWord_report : s.heartbeatWord.report =
    if s.beats ∧ s.loader.heartbeat = .lapsed then s.report.hand (s.makeRecord s.timer.windowNumber (.heartbeat .alive)) else s.report := by
  by_cases h : s.beats
  · obtain ⟨applied, code⟩ := h
    rw [State.heartbeatWord.eq_def, if_neg (by simp [code, Option.isNone_eq_false_iff.mpr applied])]
    cases hb : s.loader.heartbeat with
    | alive => rw [if_neg (by simp)]
    | lapsed => rw [if_pos ⟨⟨applied, code⟩, rfl⟩]; rfl
  · rw [heartbeatWord_idle s h, if_neg (fun k => h k.1)]

/-- The producer is ahead of the merged consumer index by more than the ring capacity (R139). -/
def State.beyondRing (s : State) : Prop :=
  ∃ p, s.loader.applied = some p ∧ p.globals.ringCapacity < (s.report.producer - mirrorConsumer s.loader.mirror).toNat

theorem consumerWord_none (h : s.loader.applied = none) : s.consumerWord a = s := by rw [State.consumerWord, h]

theorem consumerWord_accepted {p : Policy} (h : s.loader.applied = some p)
    (hle : (s.report.producer - mirrorConsumer s.loader.mirror).toNat ≤ p.globals.ringCapacity) :
    s.consumerWord a = { s with report := { s.report with consumer := mirrorConsumer s.loader.mirror } } := by
  rw [State.consumerWord, h]
  exact if_pos hle

theorem consumerWord_beyond (h : s.beyondRing) : s.consumerWord a = s.liveFault .consumerRange a := by
  obtain ⟨p, hp, hlt⟩ := h
  rw [State.consumerWord, hp]
  exact if_neg (by omega)

theorem clockSetWord_set (h : mirrorClockSet s.loader.mirror ≤ 86399) : s.clockSetWord a =
    { s with timer := { s.timer with seconds := mirrorClockSet s.loader.mirror, clockSet := true, subSecond := 0 } } := if_pos h

theorem clockSetWord_unset (h : mirrorClockSet s.loader.mirror = 0xFFFFFFFF) : s.clockSetWord a =
    { s with timer := { s.timer with seconds := 0, clockSet := false, subSecond := 0 } } := by
  rw [State.clockSetWord]
  exact (if_neg (by rw [h, Config.lastSecond]; omega)).trans (if_pos h)

theorem clockSetWord_refused (h : 86399 < mirrorClockSet s.loader.mirror) (hne : mirrorClockSet s.loader.mirror ≠ 0xFFFFFFFF) :
    s.clockSetWord a = s.liveFault .clockRange a := by
  rw [State.clockSetWord]
  exact (if_neg (by rw [Config.lastSecond]; omega)).trans (if_neg hne)

theorem keepAwakeWord_carrier (m : Memory) (c : Carrier) : (s.keepAwakeWord m).carrier c =
    if (s.isCapacity c && !mirrorKeepAwake m c && s.keepAwake c) = true then (s.carrier c).woken .routine else s.carrier c :=
  wakeAll_carrier s c _ _ _ fun t e hv hl => by rw [State.isCapacity, State.isCapacity, State.keepAwake, State.keepAwake, hv, hl]

theorem keepAwakeWord_entered (m : Memory) : EnteredSettled s (s.keepAwakeWord m)
    (deepOf s fun c => s.isCapacity c && !mirrorKeepAwake m c && s.keepAwake c) :=
  wakeAll_entered s _ _ _ fun t e hv hl => by rw [State.isCapacity, State.isCapacity, State.keepAwake, State.keepAwake, hv, hl]

theorem keepAwakeWord_changes (m : Memory) : OnlyChanges s (s.keepAwakeWord m) [.controller, .report, .arbiter, .due] :=
  wakeAll_changes s _ _ _

end Words

/-! ### Writes of one word -/

section Touches

variable (v : Nat)

theorem touches_heartbeat {e : BitVec 4} (h : e ≠ 0) : touches 0 [wordBeat 4 v e.toNat] 0x004 4 = true
    ∧ touches 0 [wordBeat 4 v e.toNat] 0x008 2 = false ∧ touches 0 [wordBeat 4 v e.toNat] 0x00C 4 = false
    ∧ touches 0 [wordBeat 4 v e.toNat] 0x010 3 = false := by
  simp only [touches, wordBeat]
  revert e
  decide

theorem touches_consumer {e : BitVec 2} (h : e ≠ 0) : touches 8 [wordBeat 0 v e.toNat] 0x004 4 = false
    ∧ touches 8 [wordBeat 0 v e.toNat] 0x008 2 = true ∧ touches 8 [wordBeat 0 v e.toNat] 0x00C 4 = false
    ∧ touches 8 [wordBeat 0 v e.toNat] 0x010 3 = false := by
  simp only [touches, wordBeat]
  revert e
  decide

theorem touches_clock {e : BitVec 4} (h : e ≠ 0) : touches 8 [wordBeat 4 v e.toNat] 0x004 4 = false
    ∧ touches 8 [wordBeat 4 v e.toNat] 0x008 2 = false ∧ touches 8 [wordBeat 4 v e.toNat] 0x00C 4 = true
    ∧ touches 8 [wordBeat 4 v e.toNat] 0x010 3 = false := by
  simp only [touches, wordBeat]
  revert e
  decide

theorem touches_keepAwake {e : BitVec 3} (h : e ≠ 0) : touches 16 [wordBeat 0 v e.toNat] 0x004 4 = false
    ∧ touches 16 [wordBeat 0 v e.toNat] 0x008 2 = false ∧ touches 16 [wordBeat 0 v e.toNat] 0x00C 4 = false
    ∧ touches 16 [wordBeat 0 v e.toNat] 0x010 3 = true := by
  simp only [touches, wordBeat]
  revert e
  decide

end Touches

theorem appendEntry_sameAtArbiter (s : State) (e : InFlight) : SameAtArbiter s (s.appendEntry e) :=
  ⟨fun _ => rfl, fun _ => rfl, rfl, rfl⟩

/-- The write presented, the upstream side's turn and the entry made for it are all that a policy write does at the port. -/
theorem written_changes (s : State) (offset : Nat) (data : List Beat) :
    OnlyChanges s ((s.turned.send (s.policyRequest offset data)).merged offset data) [.loader, .transit, .outputs] := by
  intro p hp; cases p <;> simp_all [SamePart, State.turned, State.merged]

/-- Settles O41: the heartbeat word alone acts. -/
theorem heartbeatWriteResult : Obligations.HeartbeatWriteResult := by
  intro s value enables hq next allowed some
  obtain ⟨h4, h8, hC, h10⟩ := touches_heartbeat value.toNat some
  let m := (s.turned.send (s.policyRequest 0 [wordBeat 4 value.toNat enables.toNat])).merged 0 [wordBeat 4 value.toNat enables.toNat]
  refine ⟨m.heartbeatWord.appendEntry (upstreamEntry (s.policyRequest 0 [wordBeat 4 value.toNat enables.toNat]) .forwarded none),
    ?_, fun applied code => ⟨?_, fun alive => ?_, fun lapsed => ?_⟩, fun idle => ?_, ?_⟩
  · rw [exec, execHeartbeatWrite, policyWrite_taken allowed (by omega) hq next (by simp), State.takePolicyWrite]
    simp only [h4, h8, hC, h10, if_true, Bool.false_eq_true, if_false]
    rfl
  · exact heartbeatWord_loader m ⟨applied, code⟩
  · exact (heartbeatWord_report m).trans (if_neg fun h => by cases alive.symm.trans h.2)
  · exact (heartbeatWord_report m).trans (if_pos ⟨⟨applied, code⟩, lapsed⟩)
  · rw [heartbeatWord_idle m]
    · exact ⟨rfl, rfl⟩
    · rintro ⟨applied, code⟩
      obtain h | h := idle
      · rw [show m.loader.applied = none from h] at applied; cases applied
      · exact code h
  · exact ((written_changes s _ _).seq (heartbeatWord_changes m) (n := [.loader, .report, .transit, .outputs])).seq
      (appendEntry_changes _ _)

/-- Settles O42: the consumer index alone acts. -/
theorem consumerIndexWriteResult : Obligations.ConsumerIndexWriteResult := by
  intro s value enables hq next allowed some
  obtain ⟨h4, h8, hC, h10⟩ := touches_consumer value.toNat some
  let m := (s.turned.send (s.policyRequest 8 [wordBeat 0 value.toNat enables.toNat])).merged 8 [wordBeat 0 value.toNat enables.toNat]
  let a : Address := BitVec.ofNat 40 (s.transit.policyBase + 8)
  have loader : (m.consumerWord a).loader = m.loader := (consumerWord_changes m a).loader
  refine ⟨(m.consumerWord a).appendEntry (upstreamEntry (s.policyRequest 8 [wordBeat 0 value.toNat enables.toNat]) .forwarded none),
    ?_, by rw [appendEntry_loader, loader]; rfl, fun p hp hle => ?_, fun p hp hlt => ?_, fun none => ?_, ?_⟩
  · rw [exec, execConsumerIndexWrite, policyWrite_taken allowed (by omega) hq next (by simp), State.takePolicyWrite]
    simp only [h4, h8, hC, h10, if_true, Bool.false_eq_true, if_false]
    rfl
  · rw [appendEntry_loader, loader] at hle ⊢
    rw [consumerWord_accepted m a hp hle]
    rfl
  · rw [appendEntry_loader, loader] at hlt
    rw [consumerWord_beyond m a ⟨p, hp, hlt⟩]
    rfl
  · rw [consumerWord_none m a none]
    rfl
  · exact ((written_changes s _ _).seq (consumerWord_changes m a) (n := [.loader, .report, .transit, .outputs])).seq
      (appendEntry_changes _ _)

/-- Settles O43: the clock-set word alone acts. -/
theorem clockSetWriteResult : Obligations.ClockSetWriteResult := by
  intro s value enables hq next allowed some
  obtain ⟨h4, h8, hC, h10⟩ := touches_clock value.toNat some
  let m := (s.turned.send (s.policyRequest 8 [wordBeat 4 value.toNat enables.toNat])).merged 8 [wordBeat 4 value.toNat enables.toNat]
  let a : Address := BitVec.ofNat 40 (s.transit.policyBase + 8)
  have loader : (m.clockSetWord a).loader = m.loader := (clockSetWord_changes m a).loader
  refine ⟨(m.clockSetWord a).appendEntry (upstreamEntry (s.policyRequest 8 [wordBeat 4 value.toNat enables.toNat]) .forwarded none),
    ?_, by rw [appendEntry_loader, loader]; rfl, fun hle => ?_, fun unset => ?_, fun hlt hne => ?_, ?_⟩
  · rw [exec, execClockSetWrite, policyWrite_taken allowed (by omega) hq next (by simp), State.takePolicyWrite]
    simp only [h4, h8, hC, h10, if_true, Bool.false_eq_true, if_false]
    rfl
  · rw [appendEntry_loader, loader] at hle ⊢
    rw [clockSetWord_set m a hle]
    exact ⟨rfl, rfl⟩
  · rw [appendEntry_loader, loader] at unset
    rw [clockSetWord_unset m a unset]
    exact ⟨rfl, rfl⟩
  · rw [appendEntry_loader, loader] at hlt hne
    rw [clockSetWord_refused m a hlt hne]
    exact ⟨rfl, rfl⟩
  · exact ((written_changes s _ _).seq (clockSetWord_changes m a) (n := [.loader, .timer, .report, .transit, .outputs])).seq
      (appendEntry_changes _ _)

/-- Settles O44: the keep-awake mask alone acts, and is a wake of the carriers whose bit rose. -/
theorem keepAwakeWriteResult : Obligations.KeepAwakeWriteResult := by
  intro s value enables hq next allowed some
  obtain ⟨h4, h8, hC, h10⟩ := touches_keepAwake value.toNat some
  let m := (s.turned.send (s.policyRequest 16 [wordBeat 0 value.toNat enables.toNat])).merged 16 [wordBeat 0 value.toNat enables.toNat]
  let t := (m.keepAwakeWord s.loader.mirror).appendEntry (upstreamEntry (s.policyRequest 16 [wordBeat 0 value.toNat enables.toNat]) .forwarded none)
  have loader : t.loader = m.loader := (appendEntry_loader _ _).trans (keepAwakeWord_changes m s.loader.mirror).loader
  have awake : ∀ c, t.keepAwake c = m.keepAwake c := fun c => by rw [State.keepAwake, State.keepAwake, loader]
  refine ⟨t, ?_, by rw [loader]; rfl, fun c => ?_, ?_, ?_⟩
  · rw [exec, execKeepAwakeWrite, policyWrite_taken allowed (by omega) hq next (by simp), State.takePolicyWrite]
    simp only [h4, h8, hC, h10, if_true, Bool.false_eq_true, if_false]
    rfl
  · refine (carrier_appendEntry _ _ c).trans ((keepAwakeWord_carrier m s.loader.mirror c).trans ?_)
    rw [awake]
    refine if_congr ?_ rfl rfl
    rw [Bool.and_eq_true, Bool.and_eq_true, Bool.not_eq_true', and_assoc]
    rfl
  · rintro _ rfl
    simp only [awake]
    have bodies : wakeBodies m (fun c => m.isCapacity c && !mirrorKeepAwake s.loader.mirror c && m.keepAwake c) .keepAwake .routine =
        wakeBodies s (fun c => s.isCapacity c && !s.keepAwake c && m.keepAwake c) .keepAwake .routine := rfl
    refine ⟨?_, ?_⟩
    · rw [appendEntry_report, keepAwakeWord_report, bodies]
      exact handAll_timer (s := s) (t := m) s.report _ rfl
    refine (keepAwakeWord_entered m s.loader.mirror).entriesTaken rfl rfl (appendEntry_sameAtArbiter _ _)
      (by rw [appendEntry_due, List.append_nil])
      (wakeLaw_keeps fun law => ?_)
    have woken : QueueLaw False (m.keepAwakeWord s.loader.mirror) :=
      (QueueLaw.wakes False).wakeAll _ _ _ (law.congr (fun _ => ⟨rfl, rfl⟩) rfl rfl rfl rfl)
    exact woken.of_frame (appendEntry_changes _ _)
  · exact ((written_changes s _ _).seq (keepAwakeWord_changes m _)
      (n := [.loader, .controller, .arbiter, .due, .report, .transit, .outputs])).seq (appendEntry_changes _ _)

end Sys2Proof.Machine
end

section
/-! PROOF. A policy write over several live words (O40): the words act one after the other on the merged mirror, each on the part
of the state that is its own. -/

namespace Sys2Proof.Machine

/-- What the heartbeat word does where a write touches it. -/
theorem heartbeat_acts (s : State) (acts : Bool) (t : State) (ht : t = if acts = true then s.heartbeatWord else s) :
    (acts = true ∧ s.beats → t.loader = { s.loader with heartbeat := .alive, heartbeatTimer := some 0 })
      ∧ (¬(acts = true ∧ s.beats) → t.loader = s.loader)
      ∧ t.report = (if acts = true ∧ s.beats ∧ s.loader.heartbeat = .lapsed
          then s.report.hand (s.makeRecord s.timer.windowNumber (.heartbeat .alive)) else s.report)
      ∧ OnlyChanges s t [.loader, .report] := by
  subst ht
  cases acts with
  | false => simpa using OnlyChanges.refl s _
  | true =>
    simp only [if_true, true_and]
    exact ⟨heartbeatWord_loader s, fun h => by rw [heartbeatWord_idle s h], heartbeatWord_report s, heartbeatWord_changes s⟩

/-- What the consumer index does where a write touches it: it is taken, or its fault latched. -/
theorem consumer_acts (s : State) (a : Address) (acts : Bool) (t : State) (ht : t = if acts = true then s.consumerWord a else s) :
    ∃ index latch, t.report = { s.report with consumer := index, latch := latch }
      ∧ index = (match s.loader.applied with
        | some p => if acts = true ∧ (s.report.producer - mirrorConsumer s.loader.mirror).toNat ≤ p.globals.ringCapacity
            then mirrorConsumer s.loader.mirror else s.report.consumer
        | none => s.report.consumer)
      ∧ (¬(acts = true ∧ s.beyondRing) → latch = s.report.latch)
      ∧ (acts = true ∧ s.beyondRing → latch = some {
          fault := { kinds := [.consumerRange], master := s.transit.policyMaster, kind := .write, address := a, window := some 24 }
          more := s.report.latch.isSome })
      ∧ OnlyChanges s t [.report] := by
  subst ht
  cases acts with
  | false =>
    refine ⟨s.report.consumer, s.report.latch, rfl, ?_, fun _ => rfl, fun h => (by cases h.1), .refl s _⟩
    cases s.loader.applied <;> simp
  | true =>
    simp only [if_true, true_and]
    have changed := consumerWord_changes s a
    cases ha : s.loader.applied with
    | none =>
      rw [consumerWord_none s a ha]
      exact ⟨_, _, rfl, rfl, fun _ => rfl, fun ⟨p, hp, _⟩ => (by rw [ha] at hp; cases hp), .refl s _⟩
    | some p =>
      by_cases hle : (s.report.producer - mirrorConsumer s.loader.mirror).toNat ≤ p.globals.ringCapacity
      · rw [consumerWord_accepted s a ha hle] at changed ⊢
        refine ⟨_, _, rfl, (if_pos hle).symm, fun _ => rfl, fun ⟨q, hq, hlt⟩ => ?_, changed⟩
        rw [ha] at hq
        cases hq
        omega
      · have beyond : s.beyondRing := ⟨p, ha, by omega⟩
        rw [consumerWord_beyond s a beyond] at changed ⊢
        exact ⟨_, _, rfl, (if_neg hle).symm, fun h => absurd beyond h, fun _ => rfl, changed⟩

/-- The merged clock-set word is neither a second of the day nor the value that unsets the clock (R39). -/
def State.outOfDay (s : State) : Prop := 86399 < mirrorClockSet s.loader.mirror ∧ mirrorClockSet s.loader.mirror ≠ 0xFFFFFFFF

/-- What the clock-set word does where a write touches it: the clock is set or unset, or its fault latched. -/
theorem clock_acts (s : State) (a : Address) (acts : Bool) (t : State) (ht : t = if acts = true then s.clockSetWord a else s) :
    ∃ latch, t.report = { s.report with latch := latch }
      ∧ t.timer = (if acts = false then s.timer
        else if mirrorClockSet s.loader.mirror ≤ 86399 then
          { s.timer with seconds := mirrorClockSet s.loader.mirror, clockSet := true, subSecond := 0 }
        else if mirrorClockSet s.loader.mirror = 0xFFFFFFFF then { s.timer with seconds := 0, clockSet := false, subSecond := 0 }
        else s.timer)
      ∧ (¬(acts = true ∧ s.outOfDay) → latch = s.report.latch)
      ∧ (acts = true ∧ s.outOfDay → latch = some {
          fault := { kinds := [.clockRange], master := s.transit.policyMaster, kind := .write, address := a, window := some 24 }
          more := s.report.latch.isSome })
      ∧ OnlyChanges s t [.timer, .report] := by
  subst ht
  cases acts with
  | false => exact ⟨s.report.latch, rfl, rfl, fun _ => rfl, fun h => (by cases h.1), .refl s _⟩
  | true =>
    simp only [if_true, true_and, Bool.true_eq_false, if_false]
    have changed := clockSetWord_changes s a
    by_cases hle : mirrorClockSet s.loader.mirror ≤ 86399
    · rw [clockSetWord_set s a hle] at changed ⊢
      rw [if_pos hle]
      exact ⟨_, rfl, rfl, fun _ => rfl, fun h => absurd hle (not_le.mpr h.1), changed⟩
    · rw [if_neg hle]
      by_cases unset : mirrorClockSet s.loader.mirror = 0xFFFFFFFF
      · rw [clockSetWord_unset s a unset] at changed ⊢
        rw [if_pos unset]
        exact ⟨_, rfl, rfl, fun _ => rfl, fun h => absurd unset h.2, changed⟩
      · rw [clockSetWord_refused s a (not_le.mp hle) unset] at changed ⊢
        rw [if_neg unset]
        exact ⟨_, rfl, rfl, fun h => absurd ⟨not_le.mp hle, unset⟩ h, fun _ => rfl, changed⟩

/-- The records that the keep-awake mask makes are STATE records with its cause. -/
theorem mem_wakeBodies {s : State} {which : Carrier → Bool} {k : Cause} {q : WakeClass} {b : RecordBody}
    (h : b ∈ wakeBodies s which k q) : ∃ c left entered cls, b = .stateChange c left entered k cls := by
  obtain ⟨c, -, hb⟩ := List.mem_filterMap.mp h
  rw [CarrierRecord.wakeBody.eq_def] at hb
  split at hb
  · exact ⟨_, _, _, _, (Option.some.inj hb).symm⟩
  · exact ⟨_, _, _, _, (Option.some.inj hb).symm⟩
  · exact ⟨_, _, _, _, (Option.some.inj hb).symm⟩
  · split at hb
    · split at hb
      · exact ⟨_, _, _, _, (Option.some.inj hb).symm⟩
      · cases hb
    · cases hb
  all_goals cases hb

/-- What the keep-awake mask does where a write touches it: its records follow those pending. -/
theorem keepAwake_acts (s : State) (m : Memory) (acts : Bool) (t : State) (ht : t = if acts = true then s.keepAwakeWord m else s) :
    (∀ c, t.carrier c = if acts = true ∧ s.isCapacity c = true ∧ mirrorKeepAwake m c = false ∧ s.keepAwake c = true
        then (s.carrier c).woken .routine else s.carrier c)
      ∧ (∃ later gap, t.report = { s.report with pending := s.report.pending ++ later, gap := gap }
        ∧ (acts = false → later = [] ∧ gap = s.report.gap)
        ∧ ∀ w ∈ later, ∃ gap rec c left entered cls, w = .ringRecord gap rec ∧ rec.seconds = s.timer.seconds
            ∧ rec.body = .stateChange c left entered .keepAwake cls)
      ∧ OnlyChanges s t [.controller, .report, .arbiter, .due] := by
  subst ht
  cases acts with
  | false => exact ⟨fun c => by simp, ⟨[], s.report.gap, by simp, by simp, by simp⟩, .refl s _⟩
  | true =>
    simp only [if_true, true_and]
    refine ⟨fun c => ?_, ?_, keepAwakeWord_changes s m⟩
    · rw [keepAwakeWord_carrier]
      simp only [Bool.and_eq_true, Bool.not_eq_true', and_assoc]
    · let bodies := wakeBodies s (fun c => s.isCapacity c && !mirrorKeepAwake m c && s.keepAwake c) .keepAwake .routine
      obtain ⟨later, pending, made⟩ := handAll_pending s.report s bodies
      refine ⟨later, (s.report.handAll s bodies).gap, ?_, fun h => (by cases h), fun w hw => ?_⟩
      · rw [keepAwakeWord_report, ← pending]
        have ring := handAll_ring s.report s bodies
        have owed := handAll_updateOwed s.report s bodies
        have producer := handAll_producer s.report s bodies
        have consumer := handAll_consumer s.report s bodies
        have flight := handAll_inFlightRecords s.report s bodies
        have latch := handAll_latch s.report s bodies
        rw [← ring, ← owed, ← producer, ← consumer, ← flight, ← latch]
      · obtain ⟨gap, b, hb, rfl⟩ := made w hw
        obtain ⟨c, left, entered, cls, rfl⟩ := mem_wakeBodies hb
        exact ⟨gap, _, c, left, entered, cls, rfl, rfl, rfl⟩

/-- The live words that a write touches act in their order. -/
theorem takePolicyWrite_acts (s : State) (offset : Nat) (a : Address) (data : List Beat) :
    LiveWordsActed s (s.takePolicyWrite offset a data) (touches offset data 0x004 4) (touches offset data 0x008 2)
        (touches offset data 0x00C 4) (touches offset data 0x010 3) a
      ∧ (s.takePolicyWrite offset a data).loader.mirror = mergeBeats s.loader.mirror offset data := by
  let beat := s.merged offset data
  obtain ⟨read, hread⟩ : ∃ u, u = if touches offset data 0x004 4 = true then beat.heartbeatWord else beat := ⟨_, rfl⟩
  obtain ⟨set, hset⟩ : ∃ u, u = if touches offset data 0x008 2 = true then read.consumerWord a else read := ⟨_, rfl⟩
  obtain ⟨awake, hawake⟩ : ∃ u, u = if touches offset data 0x00C 4 = true then set.clockSetWord a else set := ⟨_, rfl⟩
  obtain ⟨t, ht⟩ : ∃ u, u = if touches offset data 0x010 3 = true then awake.keepAwakeWord s.loader.mirror else awake := ⟨_, rfl⟩
  have whole : s.takePolicyWrite offset a data = t := by rw [ht, hawake, hset, hread]; rfl
  obtain ⟨alive, still, beatReport, frame₁⟩ := heartbeat_acts beat _ read hread
  obtain ⟨index, latch₁, readReport, hindex, readKept, readLatched, frame₂⟩ := consumer_acts read a _ set hset
  obtain ⟨latch₂, setReport, timer, setKept, setLatched, frame₃⟩ := clock_acts set a _ awake hawake
  obtain ⟨records, ⟨later, gap, awakeReport, noneMade, made⟩, frame₄⟩ := keepAwake_acts awake s.loader.mirror _ t ht
  have loader : t.loader = read.loader := frame₄.loader.trans (frame₃.loader.trans frame₂.loader)
  have merged : read.loader.applied = s.loader.applied ∧ read.loader.mirror = mergeBeats s.loader.mirror offset data := by
    by_cases h : touches offset data 0x004 4 = true ∧ beat.beats
    · rw [alive h]; exact ⟨rfl, rfl⟩
    · rw [still h]; exact ⟨rfl, rfl⟩
  have kept : read.report.producer = s.report.producer ∧ read.report.consumer = s.report.consumer ∧ read.report.ring = s.report.ring
      ∧ read.report.inFlightRecords = s.report.inFlightRecords ∧ read.report.updateOwed = s.report.updateOwed
      ∧ read.report.latch = s.report.latch := by
    rw [beatReport]
    split
    · simp [beat, State.merged]
    · simp [beat, State.merged]
  obtain ⟨producer, consumer, ring, flight, owed, latch⟩ := kept
  obtain ⟨applied, mirror⟩ := merged
  have word : set.loader.mirror = t.loader.mirror := by rw [loader, frame₂.loader]
  have code : awake.loader = t.loader := by rw [loader, frame₃.loader, frame₂.loader]
  have controller : awake.controller = s.controller :=
    frame₃.controller.trans (frame₂.controller.trans frame₁.controller)
  have master : read.transit = s.transit ∧ set.transit = s.transit :=
    ⟨frame₁.transit, frame₂.transit.trans frame₁.transit⟩
  have standing : set.timer = s.timer := frame₂.timer.trans frame₁.timer
  rw [whole]
  refine ⟨⟨fun h => ?_, fun h => ?_, ?_, ?_, ?_, ?_, ?_, ?_, ?_, fun c => ?_, read.report, later, ?_, ?_, fun h => ?_, ?_⟩, loader ▸ mirror⟩
  · rw [loader, alive h]; rfl
  · rw [loader, still]
    · rfl
    · rintro ⟨h4, h5, h6⟩
      obtain h | h | h := h
      · rw [h] at h4; cases h4
      · rw [show beat.loader.applied = none from h] at h5; cases h5
      · exact h6 h
  · rw [awakeReport, setReport, readReport, hindex, applied, producer, consumer, ← loader] <;>
      cases s.loader.applied <;> rfl
  · rw [awakeReport, setReport, readReport]; exact producer
  · rw [awakeReport, setReport, readReport]; exact ring
  · rw [awakeReport, setReport, readReport]; exact flight
  · rw [awakeReport, setReport, readReport]; exact owed
  · rw [frame₄.timer, timer, word, standing]
  · have beyond : read.beyondRing ↔ ∃ p, s.loader.applied = some p
        ∧ p.globals.ringCapacity < (s.report.producer - mirrorConsumer t.loader.mirror).toNat := by
      rw [State.beyondRing, applied, producer, loader]
    have outOfRange : set.outOfDay ↔ 86399 < mirrorClockSet t.loader.mirror ∧ mirrorClockSet t.loader.mirror ≠ 0xFFFFFFFF := by
      rw [State.outOfDay, word]
    rw [beyond, latch] at readKept
    rw [beyond, latch, master.1] at readLatched
    rw [outOfRange, readReport] at setKept
    rw [outOfRange, readReport, master.2] at setLatched
    rw [awakeReport, setReport]
    refine ⟨fun hb ho => ?_, fun hb ho => ?_, fun hb ho => ?_, fun hb ho => ?_⟩
    · exact (setKept ho).trans (readKept hb)
    · exact (setKept ho).trans (readLatched hb)
    · rw [readKept hb] at setLatched; exact setLatched ho
    · rw [readLatched hb] at setLatched; exact setLatched ho
  · rw [records, State.carrier, State.isCapacity, State.carrier, State.keepAwake, code, controller]
    rfl
  · rw [beatReport]
    exact if_congr (and_congr_right' and_assoc) rfl rfl
  · rw [awakeReport, setReport, readReport]
  · rw [awakeReport, setReport, readReport]; 
    obtain ⟨empty, same⟩ := noneMade h
    exact ⟨empty, same.trans (by rw [setReport, readReport])⟩
  · rw [frame₄.timer]; exact made

/-- Settles O40: the write is forwarded, merged whole, and its live words act in their order. -/
theorem policyWriteMerges : Obligations.PolicyWriteMerges := by
  intro s beat data hq next allowed _ fits
  have low : 8 * beat.toNat < 2048 := by have := beat.isLt; omega
  let r := s.policyRequest (8 * beat.toNat) data
  let a : Address := BitVec.ofNat 40 (s.transit.policyBase + 8 * beat.toNat)
  obtain ⟨acted, mirror⟩ := takePolicyWrite_acts (s.turned.send r) (8 * beat.toNat) a data
  have changed := takePolicyWrite_changes (s.turned.send r) (8 * beat.toNat) a data
  have taken := policyWrite_taken allowed low hq next fits
  obtain ⟨t, ht⟩ : ∃ t, t = (s.turned.send r).takePolicyWrite (8 * beat.toNat) a data := ⟨_, rfl⟩
  have quiet : touches (8 * beat.toNat) data 0x004 4 = false → touches (8 * beat.toNat) data 0x008 2 = false →
      touches (8 * beat.toNat) data 0x00C 4 = false → touches (8 * beat.toNat) data 0x010 3 = false →
      t = (s.turned.send r).merged (8 * beat.toNat) data := fun h4 h8 hC h10 => by
    rw [ht, State.takePolicyWrite]
    simp only [h4, h8, hC, h10, Bool.false_eq_true, if_false]
    rfl
  have port : OnlyChanges s (s.turned.send r) [.transit, .outputs] := by
    intro p hp; cases p <;> simp_all [SamePart, State.turned]
  rw [show State.takePolicyWrite _ _ _ _ = _ from ht.symm] at taken
  rw [← ht] at acted mirror changed
  refine ⟨t.appendEntry (upstreamEntry r .forwarded none), ?_, mirror, ?_, ?_, ?_, fun h4 h8 hC h10 => ⟨?_, ?_⟩, acted, ?_⟩
  · rw [exec, execPolicyWrite, taken]
  · exact (changed .outputs (by decide)).1
  · exact (changed .outputs (by decide)).2
  · rw [appendEntry_transit, changed.transit]; rfl
  · rw [quiet h4 h8 hC h10]; rfl
  · rw [quiet h4 h8 hC h10]
    exact (written_changes s _ _).seq (appendEntry_changes _ _)
  · exact (port.seq changed (n := [.loader, .timer, .report, .controller, .arbiter, .due, .transit, .outputs])).seq (appendEntry_changes _ _)

end Sys2Proof.Machine
end

section
/-! PROOF. The fabric reset (O49): the three takings that hand records, in each order. -/

namespace Sys2Proof.Machine

section Takings

variable (s : State)

/-- The record of a lapse at a reset. -/
def lapseBodies (s : State) : List RecordBody := if resetLapses s then [.heartbeat .lapsed] else []

/-- The cause that a lapse at a reset hands on. -/
def lapseDue (s : State) : List Due := if resetLapses s then [.failSafe .heartbeatLapsed] else []

theorem loaderFabricReset_eq : s.loaderFabricReset = if resetLapses s = true then s.takeHeartbeatLapse else s := by
  rw [State.loaderFabricReset, resetLapses]
  refine if_congr ?_ rfl rfl
  simp

theorem loaderFabricReset_report : s.loaderFabricReset.report = s.report.handAll s (lapseBodies s) := by
  rw [loaderFabricReset_eq, lapseBodies]
  split <;> rfl

theorem loaderFabricReset_due : s.loaderFabricReset.due = s.due ++ lapseDue s := by
  rw [loaderFabricReset_eq, lapseDue]
  split
  · rfl
  · simp

theorem loaderFabricReset_loader : s.loaderFabricReset.loader =
    if resetLapses s = true then { s.loader with heartbeat := .lapsed, heartbeatTimer := none } else s.loader := by
  rw [loaderFabricReset_eq]
  split <;> rfl

theorem loaderFabricReset_changes : OnlyChanges s s.loaderFabricReset [.loader, .report, .due] := by
  rw [loaderFabricReset_eq]
  exact ite_onlyChanges _ (takeHeartbeatLapse_changes s) (.refl s _)

theorem loaderFabricReset_sameAtArbiter : SameAtArbiter s s.loaderFabricReset := by
  have changes := loaderFabricReset_changes s
  refine ⟨fun c => by rw [changes.carrier c], fun c => by rw [changes.carrier c], ?_, changes.arbiter⟩
  have applied : s.loaderFabricReset.loader.applied = s.loader.applied := by
    rw [loaderFabricReset_loader]
    split <;> rfl
  rw [State.globals, State.globals, applied]

theorem reportFabricReset_changes : OnlyChanges s s.reportFabricReset [.report] := by
  intro p hp; cases p <;> simp_all [SamePart, State.reportFabricReset]

theorem reportFabricReset_loader : s.reportFabricReset.loader = s.loader := rfl

theorem reportFabricReset_due : s.reportFabricReset.due = s.due := rfl

theorem reportFabricReset_sameAtArbiter : SameAtArbiter s s.reportFabricReset := ⟨fun _ => rfl, fun _ => rfl, rfl, rfl⟩

theorem reportFabricReset_report : s.reportFabricReset.report =
    ReportUnit.handAll { s.report with latch := none } s [.fabricReset] := rfl

theorem takeFailSafe_report (f : FailSafe) : (s.takeFailSafe f).report =
    s.report.handAll s (wakeBodies s s.isCapacity (failSafeCause f) .urgent) :=
  wakeAll_report s State.isCapacity _ _ fun t e hv _ => by rw [State.isCapacity, State.isCapacity, hv]

end Takings

/-- Admission does not look at the latch. -/
theorem hand_withoutLatch (u : ReportUnit) (r : Record) :
    ReportUnit.hand { u with latch := none } r = { u.hand r with latch := none } := by
  have admits : ReportUnit.admits { u with latch := none } = u.admits := rfl
  rw [ReportUnit.hand, ReportUnit.hand, admits]
  split
  · rfl
  · split <;> rfl

theorem handAll_withoutLatch (u : ReportUnit) (s : State) (l : List RecordBody) :
    ReportUnit.handAll { u with latch := none } s l = { u.handAll s l with latch := none } := by
  induction l generalizing u with
  | nil => rfl
  | cons b l ih => rw [handAll_cons, handAll_cons, hand_withoutLatch, ih]

theorem wakeBodies_congr {s t : State} (h : t.controller = s.controller) (k : Cause) (q : WakeClass) :
    wakeBodies t t.isCapacity k q = wakeBodies s s.isCapacity k q := by
  have record : ∀ c, t.carrier c = s.carrier c := fun c => by rw [State.carrier, h]; rfl
  have capacity : t.isCapacity = s.isCapacity := funext fun c => by rw [State.isCapacity, State.isCapacity, record]
  simp only [wakeBodies, capacity, record]

theorem deepOf_congr {s t : State} (h : t.controller = s.controller) : deepOf t t.isCapacity = deepOf s s.isCapacity := by
  have record : ∀ c, t.carrier c = s.carrier c := fun c => by rw [State.carrier, h]; rfl
  have capacity : t.isCapacity = s.isCapacity := funext fun c => by rw [State.isCapacity, State.isCapacity, record]
  simp only [deepOf, capacity, record]

theorem resetLapses_congr {s t : State} (h : t.loader = s.loader) : resetLapses t = resetLapses s := by
  simp only [resetLapses, State.globals, h]

/-- The records of `bodies` have been handed since a state, and since then the latch has been emptied or not. -/
def HandedOn (s t : State) (bodies : List RecordBody) (emptied : Bool) : Prop :=
  t.timer = s.timer ∧ t.report = if emptied = true then { s.report.handAll s bodies with latch := none } else s.report.handAll s bodies

namespace HandedOn

variable {s t : State} {bodies : List RecordBody} {emptied : Bool}

theorem start (s : State) : HandedOn s s [] false := ⟨rfl, rfl⟩

theorem more (h : HandedOn s t bodies emptied) {u : State} {l : List RecordBody} (timer : u.timer = t.timer)
    (report : u.report = t.report.handAll t l) : HandedOn s u (bodies ++ l) emptied := by
  obtain ⟨stands, handed⟩ := h
  refine ⟨timer.trans stands, ?_⟩
  rw [report, handed, handAll_timer _ _ stands, handAll_append]
  cases emptied with
  | false => rfl
  | true => exact handAll_withoutLatch _ s l

theorem wake (h : HandedOn s t bodies emptied) (same : t.controller = s.controller) :
    HandedOn s (t.takeFailSafe .fabricReset) (bodies ++ wakeBodies s s.isCapacity .fabricReset .urgent) emptied :=
  h.more (takeFailSafe_changes t _).timer (by rw [takeFailSafe_report, wakeBodies_congr same]; rfl)

theorem lapse (h : HandedOn s t bodies emptied) (same : t.loader = s.loader) :
    HandedOn s t.loaderFabricReset (bodies ++ lapseBodies s) emptied :=
  h.more (loaderFabricReset_changes t).timer (by rw [loaderFabricReset_report, lapseBodies, lapseBodies, resetLapses_congr same])

theorem report (h : HandedOn s t bodies emptied) : HandedOn s t.reportFabricReset (bodies ++ [.fabricReset]) true := by
  obtain ⟨stands, handed⟩ := h
  refine ⟨stands, ?_⟩
  rw [reportFabricReset_report, handAll_withoutLatch, handed, handAll_timer _ _ stands, handAll_append, if_pos rfl]
  cases emptied with
  | false => rfl
  | true => simp only [if_true, handAll_withoutLatch]

end HandedOn

/-- The records of a reset, and the latch emptied. -/
theorem orderedFabricReset_report (s : State) (order : ResetOrder) :
    (s.orderedFabricReset order).report = { s.report.handAll s (resetBodies s order) with latch := none } := by
  have start := HandedOn.start s
  have awake : (s.takeFailSafe .fabricReset).loader = s.loader := (takeFailSafe_changes s _).loader
  cases order with
  | controllerLoaderReport => exact ((start.wake rfl).lapse awake).report.2
  | controllerReportLoader => exact ((start.wake rfl).report.lapse ((reportFabricReset_loader _).trans awake)).2
  | loaderControllerReport => exact ((start.lapse rfl).wake (loaderFabricReset_changes s).controller).report.2
  | reportControllerLoader => exact ((start.report.wake rfl).lapse (takeFailSafe_changes s.reportFabricReset _).loader).2
  | loaderReportController => exact (start.lapse rfl).report.2
  | reportLoaderController => exact (start.report.lapse rfl).2

theorem orderedFabricReset_loader (s : State) (order : ResetOrder) : (s.orderedFabricReset order).loader =
    if resetLapses s = true then { s.loader with heartbeat := .lapsed, heartbeatTimer := none } else s.loader := by
  have lapse : ∀ t : State, t.loader = s.loader → t.loaderFabricReset.loader =
      if resetLapses s = true then { s.loader with heartbeat := .lapsed, heartbeatTimer := none } else s.loader := fun t h => by
    rw [loaderFabricReset_loader, resetLapses_congr h, h]
  have wake : ∀ t : State, (t.takeFailSafe .fabricReset).loader = t.loader := fun t => (takeFailSafe_changes t _).loader
  cases order with
  | controllerLoaderReport => exact (reportFabricReset_loader _).trans (lapse _ (wake s))
  | controllerReportLoader => exact lapse _ ((reportFabricReset_loader _).trans (wake s))
  | loaderControllerReport => exact (reportFabricReset_loader _).trans ((wake _).trans (lapse s rfl))
  | reportControllerLoader => exact lapse _ (wake _)
  | loaderReportController => exact lapse s rfl
  | reportLoaderController => exact lapse _ rfl

/-- The sleepers are woken where the Carrier Controller takes its cause within the event. -/
theorem orderedFabricReset_carrier (s : State) (order : ResetOrder) (c : Carrier) : (s.orderedFabricReset order).carrier c =
    if order = .loaderReportController ∨ order = .reportLoaderController then s.carrier c
    else if s.isCapacity c = true then (s.carrier c).woken .urgent else s.carrier c := by
  have lapse : ∀ t : State, t.loaderFabricReset.carrier c = t.carrier c := fun t => (loaderFabricReset_changes t).carrier c
  have report : ∀ t : State, t.reportFabricReset.carrier c = t.carrier c := fun _ => rfl
  have capacity : s.loaderFabricReset.isCapacity c = s.isCapacity c := by rw [State.isCapacity, State.isCapacity, lapse]
  cases order with
  | controllerLoaderReport => exact (report _).trans ((lapse _).trans (takeFailSafe_carrier s c _))
  | controllerReportLoader => exact (lapse _).trans ((report _).trans (takeFailSafe_carrier s c _))
  | loaderControllerReport =>
    refine (report _).trans ((takeFailSafe_carrier _ c _).trans ?_)
    rw [capacity, lapse]
    rfl
  | reportControllerLoader => exact (lapse _).trans (takeFailSafe_carrier s.reportFabricReset c _)
  | loaderReportController => exact (report _).trans (lapse s)
  | reportLoaderController => exact (lapse _).trans (report s)

/-- The entries, grants and causes that a reset hands on. -/
theorem orderedFabricReset_handsOn (s : State) (order : ResetOrder) : ResetHandsOn s (s.orderedFabricReset order) order := by
  have law : WakeLaw s → WakeLaw (s.orderedFabricReset order) := wakeLaw_keeps fun hs => by
    have lapse : ∀ t : State, QueueLaw False t → QueueLaw False t.loaderFabricReset := fun t ht => by
      have changes := loaderFabricReset_changes t
      refine ht.congr (fun c => by rw [changes.carrier c]; exact ⟨rfl, rfl⟩) (by rw [changes.arbiter]) (by rw [changes.arbiter])
        (by rw [changes.arbiter]) ?_
      rw [loaderFabricReset_due, lapseDue]
      split <;> simp [grantsOutstanding]
    have report : ∀ t : State, QueueLaw False t → QueueLaw False t.reportFabricReset := fun t ht =>
      ht.of_frame (reportFabricReset_changes t)
    have wake : ∀ t : State, QueueLaw False t → QueueLaw False (t.takeFailSafe .fabricReset) := fun t ht =>
      (QueueLaw.wakes False).takeFailSafe _ ht
    have later : ∀ t : State, QueueLaw False t → QueueLaw False (t.addDue (.failSafe .fabricReset)) := fun t ht =>
      ht.congr (fun _ => ⟨rfl, rfl⟩) rfl rfl rfl (by simp [State.addDue, grantsOutstanding])
    cases order with
    | controllerLoaderReport => exact report _ (lapse _ (wake _ hs))
    | controllerReportLoader => exact lapse _ (report _ (wake _ hs))
    | loaderControllerReport => exact report _ (wake _ (lapse _ hs))
    | reportControllerLoader => exact lapse _ (wake _ (report _ hs))
    | loaderReportController => exact later _ (report _ (lapse _ hs))
    | reportLoaderController => exact later _ (lapse _ (report _ hs))
  have same : ∀ t : State, t.loader = s.loader → lapseDue t = lapseDue s := fun t h => by
    rw [lapseDue, lapseDue, resetLapses_congr h]
  have awake := (takeFailSafe_changes s .fabricReset).loader
  have entered := takeFailSafe_entered s .fabricReset
  cases order with
  | controllerLoaderReport =>
    refine entered.entriesTaken rfl rfl ((loaderFabricReset_sameAtArbiter _).trans (reportFabricReset_sameAtArbiter _)) ?_ law
    rw [State.orderedFabricReset, reportFabricReset_due, loaderFabricReset_due, same _ awake]
    rfl
  | controllerReportLoader =>
    refine entered.entriesTaken rfl rfl ((reportFabricReset_sameAtArbiter _).trans (loaderFabricReset_sameAtArbiter _)) ?_ law
    rw [State.orderedFabricReset, loaderFabricReset_due, reportFabricReset_due, same _ ((reportFabricReset_loader _).trans awake)]
    rfl
  | loaderControllerReport =>
    have deep : deepOf s.loaderFabricReset s.loaderFabricReset.isCapacity = deepOf s s.isCapacity :=
      deepOf_congr (loaderFabricReset_changes s).controller
    show EntriesTaken _ _ _ _ _
    rw [← deep]
    refine (takeFailSafe_entered s.loaderFabricReset .fabricReset).entriesTaken (loaderFabricReset_changes s).arbiter
      (loaderFabricReset_due s) (reportFabricReset_sameAtArbiter _)
      (by rw [State.orderedFabricReset, reportFabricReset_due, List.append_nil]) law
  | reportControllerLoader =>
    refine (takeFailSafe_entered s.reportFabricReset .fabricReset).entriesTaken rfl rfl (loaderFabricReset_sameAtArbiter _) ?_ law
    rw [State.orderedFabricReset, loaderFabricReset_due, same _ (takeFailSafe_changes s.reportFabricReset _).loader]
    rfl
  | loaderReportController =>
    refine ⟨(loaderFabricReset_changes s).arbiter, ?_⟩
    exact congrArg (· ++ [Due.failSafe .fabricReset]) (loaderFabricReset_due s)
  | reportLoaderController =>
    refine ⟨(loaderFabricReset_changes s.reportFabricReset).arbiter, ?_⟩
    exact congrArg (· ++ [Due.failSafe .fabricReset]) (loaderFabricReset_due s.reportFabricReset)

/-- What is handed on is outstanding: the cause of a lapse, and that of the reset where it is left. -/
theorem ResetHandsOn.outstanding {s t : State} {order : ResetOrder} (h : ResetHandsOn s t order) :
    (resetLapses s = true → .failSafe .heartbeatLapsed ∈ t.due)
      ∧ (order = .loaderReportController ∨ order = .reportLoaderController → .failSafe .fabricReset ∈ t.due) := by
  cases order with
  | controllerLoaderReport | controllerReportLoader | reportControllerLoader | loaderControllerReport =>
    obtain ⟨-, granted, due, -⟩ := h
    exact ⟨fun lapses => by rw [due, lapses]; simp, by simp⟩
  | loaderReportController | reportLoaderController =>
    obtain ⟨-, due⟩ := h
    exact ⟨fun lapses => by rw [due, lapses]; simp, fun _ => by rw [due]; simp⟩

/-- Settles O49: the reset is taken by the transit path and the monitor, and then by three blocks in the order given. -/
theorem fabricResetResult : Obligations.FabricResetResult := by
  intro s order hq
  let u := s.abandonUpstream.flushAll
  have taken : exec (.fabricReset order) s = .next (u.orderedFabricReset order) := by
    rw [exec, execFabricReset, settleAtOnce_quiet hq]
  have first : OnlyChanges s u [.transit, .monitor] := by
    intro p hp; cases p <;> simp_all [SamePart, u, State.abandonUpstream]
  have changed := orderedFabricReset_changes u order
  have report : (u.orderedFabricReset order).report = { s.report.handAll s (resetBodies s order) with latch := none } :=
    orderedFabricReset_report u order
  have carrier := orderedFabricReset_carrier u order
  have loader := orderedFabricReset_loader u order
  have handed : ResetHandsOn s (u.orderedFabricReset order) order := orderedFabricReset_handsOn u order
  refine ⟨u.orderedFabricReset order, taken, ?_, fun c => ?_, ?_, ?_, ?_, ?_, ?_, fun applied code alive => ⟨?_, ?_⟩, fun idle => ?_,
    fun h₁ h₂ c => ?_, fun h => ⟨fun c => ?_, handed.outstanding.2 h⟩, report, handed, ?_⟩
  · rw [changed.transit]; rfl
  · rw [changed.held c]; exact held_flushAll _ c
  · rw [report]
  · rw [report]; exact handAll_ring _ _ _
  · rw [report]; exact handAll_producer _ _ _
  · rw [report]; exact handAll_consumer _ _ _
  · rw [report]; exact handAll_inFlightRecords _ _ _
  · exact loader.trans (if_pos (by simp [resetLapses, u, State.abandonUpstream, applied, alive]; exact code))
  · exact handed.outstanding.1 (by simp [resetLapses, applied, code, alive])
  · refine loader.trans (if_neg ?_)
    rw [show resetLapses u = resetLapses s from rfl, resetLapses]
    obtain h | h | h := idle <;> simp [h]
  · rw [carrier, if_neg (by simp [h₁, h₂])]
    rfl
  · rw [carrier, if_pos h]
    rfl
  · exact first.seq changed

end Sys2Proof.Machine
end

section
/-! PROOF. Descriptors (O28, O29) and the Report Unit's ways (O52, O53, O54): blanked beats, the checks of a first beat, the
layout of what is written, and the fault latch at a boundary. -/

namespace Sys2Proof.Machine

/-! ### Blanked beats -/

theorem blankFirst_getLsbD (d : BeatData) {i : Nat} (hi : i < 64) :
    (blankBeat .first d).getLsbD i = if 21 ≤ i ∧ i ≤ 31 then false else d.getLsbD i := by
  have mask : ∀ i < 64, (~~~(0x7FF#64 <<< 21)).getLsbD i = !decide (21 ≤ i ∧ i ≤ 31) := by decide
  rw [blankBeat, BitVec.getLsbD_and, mask i hi]
  by_cases h : 21 ≤ i ∧ i ≤ 31 <;> simp [h]

/-- A field of a beat is read bit by bit. -/
theorem extract_congr {d e : BeatData} {low width : Nat} (h : ∀ i, i < width → d.getLsbD (low + i) = e.getLsbD (low + i)) :
    d.extractLsb' low width = e.extractLsb' low width := by
  refine BitVec.eq_of_getLsbD_eq fun i hi => ?_
  rw [BitVec.getLsbD_extractLsb', BitVec.getLsbD_extractLsb', h i hi]

/-- Settles O28, bit by bit. -/
theorem blankedBeats : Obligations.BlankedBeats := by
  intro d
  have kept : ∀ i, i < 21 → (blankBeat .first d).getLsbD i = d.getLsbD i := fun i hi => by
    rw [blankFirst_getLsbD d (by omega), if_neg (by omega)]
  have lost : ∀ i, 21 ≤ i → i ≤ 31 → (blankBeat .first d).getLsbD i = false := fun i h h' => by
    rw [blankFirst_getLsbD d (by omega), if_pos ⟨h, h'⟩]
  refine ⟨fun i hi => blankFirst_getLsbD d hi, ?_, lost 30 (by omega) (by omega), lost 31 (by omega) (by omega), ?_, ?_, ?_, rfl⟩
  · have none : (blankBeat .first d).extractLsb' 21 9 = (0 : BeatData).extractLsb' 21 9 :=
      extract_congr fun i hi => by rw [lost _ (by omega) (by omega)]; simp
    rw [descRb, none]
    rfl
  · rw [descFormat, extract_congr (e := d) fun i hi => kept _ (by omega)]; rfl
  · rw [descTag, extract_congr (e := d) fun i hi => kept _ (by omega)]; rfl
  · rw [descCarrier, extract_congr (e := d) fun i hi => kept _ (by omega)]; rfl

/-! ### The checks of a first beat -/

/-- The checks as R62 orders them. -/
theorem examine_eq (c : Carrier) (st : TimerState) (slot : Slot) (b : Beat) : examine c st slot b =
    if b.enables.getLsbD 0 = true ∧ descFormat b.data ≠ 5 then .ignored
    else if b.enables ≠ 0xFF then .refused .partialDescriptor
    else if descCarrier b.data ≠ c.val then .refused .misfiledDescriptor
    else if st ≠ .locked then .refused .unsyncedDescriptor
    else if leadDistance (descTag b.data) slot = 0 ∨ 2048 ≤ leadDistance (descTag b.data) slot then .refused .lateDescriptor
    else if 5 ≤ leadDistance (descTag b.data) slot then .refused .earlyDescriptor
    else .held := by
  simp only [examine, Bool.and_eq_true, bne_iff_ne]

theorem demandRaised_iff (state : CarrierState) (rb : Nat) :
    demandRaised state rb = true ↔ (state = .deep ∨ state = .queued) ∧ rb ≠ 0 := by
  rw [demandRaised, Bool.and_eq_true, Bool.or_eq_true, beq_iff_eq, beq_iff_eq, decide_eq_true_eq, Nat.pos_iff_ne_zero]

theorem handDescriptor_ignored {s : State} {c : Carrier} {b : Beat} (h : examine c s.timer.state s.timer.slot b = .ignored)
    (m : Master) (a : Address) : s.handDescriptor c m a b = s := by rw [State.handDescriptor, h]

theorem handDescriptor_refused {s : State} {c : Carrier} {b : Beat} {k : FaultKind}
    (h : examine c s.timer.state s.timer.slot b = .refused k) (m : Master) (a : Address) : s.handDescriptor c m a b =
      s.latchFault { kinds := [k], master := m, kind := .write, address := a, window := some c.val } := by
  rw [State.handDescriptor, h]

theorem handDescriptor_held {s : State} {c : Carrier} {b : Beat} (h : examine c s.timer.state s.timer.slot b = .held)
    (m : Master) (a : Address) : s.handDescriptor c m a b =
      let e : Held := { tag := descTag b.data, rb := min (descRb b.data) (s.carrier c).values.rbMax, beacon := descBeacon b.data }
      let t := s.setHeld c (holdIn s.timer.slot e (s.held c))
      if ((s.carrier c).state = .deep ∨ (s.carrier c).state = .queued) ∧ e.rb ≠ 0
      then t.addDue (.demand c (descUrgent b.data)) else t := by
  rw [State.handDescriptor, h]
  exact if_congr (demandRaised_iff _ _) rfl rfl

/-- Settles O29: the first check that fails decides. -/
theorem descriptorChecks : Obligations.DescriptorChecks := by
  intro s c m cell b
  have checks := examine_eq c s.timer.state s.timer.slot b
  refine ⟨fun slot none => ?_, fun before after h hl first => ?_, ?_⟩
  · rw [retiredSlot, List.find?_eq_none.mpr fun h hh => by simpa using none h hh]
  · have none : before.find? (fun g => g.tag == h.tag) = none := List.find?_eq_none.mpr fun g hg => by simpa using first g hg
    rw [retiredSlot, hl, List.find?_append, none]
    simp
  · split_ifs at checks ⊢
    · exact handDescriptor_ignored checks m cell
    iterate 5 · exact handDescriptor_refused checks m cell
    · exact handDescriptor_held checks m cell

/-! ### The response to a ring record write -/

/-- Settles O52, by the oldest record in flight. -/
theorem recordResponseWays : Obligations.RecordResponseWays := by
  intro u capacity status rest
  refine ⟨fun void => ?_, fun live ok room => ?_, fun live fails => ?_⟩
  · rw [ReportUnit.recordAnswered, void]
  · have written : u.recordAnswered capacity status =
        ReportUnit.updateDue { u with inFlightRecords := rest, producer := u.producer + 1 } := by
      rw [ReportUnit.recordAnswered, live]
      exact if_pos ⟨ok, room⟩
    rw [written, ReportUnit.updateDue]
    refine ⟨fun covered => ?_, fun uncovered place => ?_, fun uncovered full => ?_⟩
    · exact if_pos (List.contains_iff_mem.mpr covered)
    · exact (if_neg fun h => uncovered (List.contains_iff_mem.mp h)).trans (if_pos place)
    · exact (if_neg fun h => uncovered (List.contains_iff_mem.mp h)).trans (if_neg (not_lt.mpr full))
  · rw [ReportUnit.recordAnswered, live]
    refine if_neg fun ⟨ok, room⟩ => ?_
    obtain h | h := fails
    · rw [ok] at h; cases h
    · exact absurd room (not_lt.mpr h)

/-! ### The fault latch and the status block -/

theorem hand_admitted {u : ReportUnit} (h : u.admits = true) (r : Record) :
    u.hand r = { u with pending := u.pending ++ [.ringRecord u.gap r], gap := false } := by
  have ring : u.ring.isNone = false := by
    rw [ReportUnit.admits.eq_def] at h
    split at h
    · next hr => rw [hr]; rfl
    · cases h
  rw [ReportUnit.hand, ring, if_neg (by simp), if_pos h]

theorem reportLatchedFault_none {s : State} (h : s.report.latch = none) (w : Word32) : s.reportLatchedFault w = s := by
  rw [State.reportLatchedFault, h]

theorem reportLatchedFault_admitted {s : State} {l : LatchedFault} (h : s.report.latch = some l) (ha : s.report.admits = true)
    (w : Word32) : (s.reportLatchedFault w).report = { s.report with
      latch := none, gap := false, pending := s.report.pending ++ [.ringRecord s.report.gap (s.makeRecord w (.faultReport l))] } := by
  rw [State.reportLatchedFault, h]
  dsimp only
  rw [if_pos ha, hand_admitted ha]

theorem reportLatchedFault_kept {s : State} {l : LatchedFault} (h : s.report.latch = some l) (ha : s.report.admits = false)
    (w : Word32) : (s.reportLatchedFault w).report.latch = some l := by
  rw [State.reportLatchedFault, h]
  dsimp only
  rw [if_neg (by simp [ha])]
  exact (reportHand_latch _ _).trans h

/-- The procedure of a boundary leaves the Slot Timer but for the night values held back. -/
theorem runProcedure_timer (s : State) (w : Word32) (clean : Bool) :
    (s.runProcedure w clean).timer = { s.timer with nightHold := (s.runProcedure w clean).timer.nightHold } := by
  rw [State.runProcedure.eq_def]
  split
  · rfl
  · rw [addDue_timer]
    dsimp only
    rw [(measureAll_changes s _).timer]

theorem reportLatchedFault_indices (s : State) (w : Word32) : (s.reportLatchedFault w).report.ring = s.report.ring
    ∧ (s.reportLatchedFault w).report.producer = s.report.producer := by
  rw [State.reportLatchedFault.eq_def]
  split
  · exact ⟨rfl, rfl⟩
  · dsimp only
    split <;> exact ⟨reportHand_ring _ _, reportHand_producer _ _⟩

/-- The four writes of the status block (R156, R162), by the states and classes found at a boundary and the figures it leaves. -/
theorem statusWrites_eq {s t : State} (changed : OnlyChanges s t [.report, .evaluator, .timer, .due]) (w : Word32) (base : Nat)
    (producer : t.report.producer = s.report.producer) (timer : t.timer = { s.timer with nightHold := t.timer.nightHold }) :
    t.statusWrites w base =
      [.statusBlock (BitVec.ofNat 40 base)
        [packBeat [(0, s.report.producer.toNat)],
         packBeat [(0, w.toNat), (4, s.loader.lastApplied.toNat)],
         packBeat [(0, s.loader.lastRefused.toNat), (4, s.timer.seconds)],
         packBeat [(0, s.timer.state.code), (1, if s.timer.clockSet = true then 1 else 0),
           (2, s.loader.heartbeat.statusCode), (3, (s.arbiter.charged.map Prod.snd).sum),
           (4, (carriers.filter (fun c => (s.carrier c).state == .queued)).length)],
         0, 0, 0, 0],
       .statusBlock (BitVec.ofNat 40 (base + 0x40)) (statusBeats s t [0, 1, 2, 3, 4, 5, 6, 7]),
       .statusBlock (BitVec.ofNat 40 (base + 0x80)) (statusBeats s t [8, 9, 10, 11, 12, 13, 14, 15]),
       .statusBlock (BitVec.ofNat 40 (base + 0xC0)) (statusBeats s t [16, 17, 18, 19, 20, 21, 22, 23])] := by
  have entries : t.statusEntry = fun c => encodeEntry (s.carrier c).state (s.carrier c).queuedClass (t.figures c) :=
    funext fun c => by rw [State.statusEntry, changed.carrier c]
  have header : t.statusHeader w = [packBeat [(0, s.report.producer.toNat)],
      packBeat [(0, w.toNat), (4, s.loader.lastApplied.toNat)],
      packBeat [(0, s.loader.lastRefused.toNat), (4, s.timer.seconds)],
      packBeat [(0, s.timer.state.code), (1, if s.timer.clockSet = true then 1 else 0),
        (2, s.loader.heartbeat.statusCode), (3, (s.arbiter.charged.map Prod.snd).sum),
        (4, (carriers.filter (fun c => (s.carrier c).state == .queued)).length)],
      0, 0, 0, 0] := by
    have queued : t.queueLength = (carriers.filter (fun c => (s.carrier c).state == .queued)).length :=
      congrArg List.length (List.filter_congr fun c _ => by rw [inState, changed.carrier c])
    rw [State.statusHeader, producer, changed.loader, queued, timer, changed.arbiter]
    rfl
  rw [State.statusWrites, header, entries]
  rfl

/-- Settles O54: the FAULT record first, then the rewrite of the status block. -/
theorem faultLatchRules : Obligations.FaultLatchRules := by
  intro s
  refine ⟨fun f h => by simp [h], fun f old h => by simp [h], fun w h => reportLatchedFault_none h w,
    fun w l h ha => reportLatchedFault_admitted h ha w, fun w l h ha => reportLatchedFault_kept h ha w,
    fun window clean locked rest hq h => ?_⟩
  let f := s.reportLatchedFault window
  let g := State.reportLatchedFault { s with due := rest } window
  let v := g.runProcedure window clean
  have report : g.report = f.report := by
    cases hl : s.report.latch with
    | none => rw [show f = s from reportLatchedFault_none hl window,
        show g = { s with due := rest } from reportLatchedFault_none (s := { s with due := rest }) hl window]
    | some l =>
      show (State.reportLatchedFault _ _).report = (s.reportLatchedFault window).report
      rw [State.reportLatchedFault, State.reportLatchedFault, hl]
      dsimp only
      split <;> rfl
  have procedure := runProcedure_changes g window clean
  have kept : v.report = f.report := procedure.report.trans report
  have first : OnlyChanges { s with due := rest } g [.report] := reportLatchedFault_changes _ window
  have changed : OnlyChanges s v [.report, .evaluator, .timer, .due] :=
    ((dropDue_changes s rest).seq first (n := [.report, .due])).seq procedure
  have timer : v.timer = { s.timer with nightHold := v.timer.nightHold } := by
    have := runProcedure_timer g window clean
    rw [first.timer] at this
    exact this
  obtain ⟨ring, producer⟩ := reportLatchedFault_indices s window
  have taken : exec .windowBoundary s = .next (v.rewriteStatus window) := by
    rw [exec, execWindowBoundary, settleAtOnce_quiet hq, takeNamed_found h]; rfl
  have places : v.report.placesTaken = f.report.pending.length + (if f.report.updateOwed = true then 1 else 0) := by
    rw [kept]; rfl
  refine ⟨f.report, v.rewriteStatus window, rfl, taken, fun none => ?_, fun r hr full => ?_, fun r hr room => ?_⟩
  all_goals rw [State.rewriteStatus.eq_def, show v.report.ring = s.report.ring from kept ▸ ring]
  · rw [none]; exact kept
  · rw [hr]
    dsimp only
    rw [if_neg (by rw [places]; exact not_le.mpr (by rw [Config.pendingLimit]; omega))]
    exact kept
  · rw [hr]
    dsimp only
    rw [if_pos (by rw [places, Config.pendingLimit]; omega)]
    have writes := statusWrites_eq changed window r.base (by rw [kept]; exact producer) timer
    rw [kept, writes]
    rfl

end Sys2Proof.Machine
end

section
/-! PROOF. The layouts of chapter 10 (O39, O53): fields put together in a beat and read back, and the mirror read field by field. -/

namespace Sys2Proof.Machine

/-! ### Fields put together in a beat -/

/-- Fields put together with a number: each holds its bits at its offset. -/
theorem foldFields_testBit (fields : List (Nat × Nat)) (n i : Nat) :
    (fields.foldl (fun acc f => acc ||| f.2 * 2 ^ (8 * f.1)) n).testBit i = true ↔
      n.testBit i = true ∨ ∃ f ∈ fields, 8 * f.1 ≤ i ∧ f.2.testBit (i - 8 * f.1) = true := by
  induction fields generalizing n with
  | nil => simp
  | cons f fields ih =>
    rw [List.foldl_cons, ih, Nat.testBit_or, Bool.or_eq_true, Nat.testBit_mul_two_pow, Bool.and_eq_true, decide_eq_true_eq, or_assoc,
      List.exists_mem_cons_iff]

theorem packBeat_getLsbD (fields : List (Nat × Nat)) {i : Nat} (hi : i < 64) : (packBeat fields).getLsbD i = true ↔
    ∃ f ∈ fields, 8 * f.1 ≤ i ∧ f.2.testBit (i - 8 * f.1) = true := by
  rw [packBeat, BitVec.getLsbD_ofNat, Bool.and_eq_true, decide_eq_true_eq, foldFields_testBit]
  simp [hi]

theorem bitsAt_testBit (d : BeatData) (low width j : Nat) :
    (bitsAt d low width).testBit j = (decide (j < width) && d.getLsbD (low + j)) := by
  rw [bitsAt, Nat.testBit_mod_two_pow, Nat.testBit_div_two_pow, Nat.add_comm j low]
  rfl

/-- A field of a beat: its byte offset, its width in bytes and the value in it. -/
structure Field where
  at_ : Nat
  width : Nat
  value : Nat

/-- Two fields have no byte in common. -/
def Field.apart (f g : Field) : Prop := f.at_ + f.width ≤ g.at_ ∨ g.at_ + g.width ≤ f.at_

/-- The value of a field has no bit beyond it. -/
def Field.fits (f : Field) : Prop := f.value < 2 ^ (8 * f.width)

/-- A beat put together of fields. -/
def packFields (l : List Field) : BeatData := packBeat (l.map fun f => (f.at_, f.value))

/-- A bit of a beat put together is a bit of the field that holds it. -/
theorem packFields_getLsbD {l : List Field} {g : Field} (fit : ∀ f ∈ l, f.fits) (apart : ∀ f ∈ l, f = g ∨ f.apart g)
    {j : Nat} (hj : j < 8 * g.width) (room : g.at_ + g.width ≤ 8) :
    (packFields l).getLsbD (8 * g.at_ + j) = true ↔ g ∈ l ∧ g.value.testBit j = true := by
  rw [packFields, packBeat_getLsbD _ (by omega)]
  constructor
  · rintro ⟨_, hm, low, bit⟩
    obtain ⟨f, hf, rfl⟩ := List.mem_map.mp hm
    dsimp only at low bit
    obtain rfl | h := apart f hf
    · rw [Nat.add_sub_cancel_left] at bit
      exact ⟨hf, bit⟩
    · have : 8 * (f.at_ + f.width) ≤ 8 * g.at_ := by obtain h | h := h <;> omega
      have small : f.value < 2 ^ (8 * g.at_ + j - 8 * f.at_) := (fit f hf).trans_le (Nat.pow_le_pow_right (by omega) (by omega))
      rw [Nat.testBit_lt_two_pow small] at bit
      cases bit
  · rintro ⟨hg, bit⟩
    exact ⟨(g.at_, g.value), List.mem_map.mpr ⟨g, hg, rfl⟩, by dsimp only; omega, by rw [Nat.add_sub_cancel_left]; exact bit⟩

/-- A field put into a beat is read back. -/
theorem packFields_read {l : List Field} (apart : l.Pairwise Field.apart) (fit : ∀ f ∈ l, f.fits) {g : Field} (hg : g ∈ l)
    (room : g.at_ + g.width ≤ 8) : bitsAt (packFields l) (8 * g.at_) (8 * g.width) = g.value := by
  have symm : Std.Symm Field.apart := ⟨fun _ _ h => Or.symm h⟩
  have others : ∀ f ∈ l, f = g ∨ f.apart g := fun f hf => by
    by_cases h : f = g
    · exact .inl h
    · exact .inr (apart.forall hf hg h)
  refine Nat.eq_of_testBit_eq fun j => ?_
  rw [bitsAt_testBit]
  by_cases hj : j < 8 * g.width
  · rw [decide_eq_true hj, Bool.true_and, Bool.eq_iff_iff, packFields_getLsbD fit others hj room]
    exact ⟨fun h => h.2, fun h => ⟨hg, h⟩⟩
  · rw [decide_eq_false hj, Bool.false_and,
      Nat.testBit_lt_two_pow ((fit g hg).trans_le (Nat.pow_le_pow_right (by omega) (by omega)))]

/-- Bytes into which no field is put are zero. -/
theorem packFields_gap {l : List Field} (fit : ∀ f ∈ l, f.fits) (o width : Nat) (out : ∀ f ∈ l, f.apart ⟨o, width, 0⟩)
    (room : o + width ≤ 8) : bitsAt (packFields l) (8 * o) (8 * width) = 0 := by
  refine Nat.eq_of_testBit_eq fun j => ?_
  rw [bitsAt_testBit, Nat.zero_testBit]
  by_cases hj : j < 8 * width
  · rw [decide_eq_true hj, Bool.true_and, Bool.eq_false_iff, Ne,
      packFields_getLsbD (g := ⟨o, width, 0⟩) fit (fun f hf => .inr (out f hf)) hj room]
    exact fun h => by simp at h
  · rw [decide_eq_false hj, Bool.false_and]

theorem bitsAt_zero (low width : Nat) : bitsAt 0 low width = 0 := by simp [bitsAt]

/-! ### Codes -/

theorem code_lt (st : CarrierState) : st.code < 8 := by cases st <;> decide
theorem rank_lt (q : WakeClass) : q.rank < 4 := by cases q <;> decide
theorem causeCode_lt (k : Cause) : k.code < 256 := by cases k <;> decide
theorem reasonCode_lt (r : RefusalReason) : r.code < 256 := by cases r <;> decide
theorem kindCode_lt (b : RecordBody) : b.kindCode < 256 := by cases b <;> simp [RecordBody.kindCode]
theorem flagBit_lt (b : Bool) : flagBit b < 2 := by cases b <;> decide
theorem accessCode_lt (k : AccessKind) : accessCode k < 2 := by cases k <;> decide

theorem classCode_lt (cls : Option WakeClass) : classCode cls < 4 := by
  cases cls with
  | none => decide
  | some q => exact rank_lt q

theorem carrierCode_lt (b : RecordBody) : b.carrierCode < 256 := by
  cases b with
  | stateChange c => exact c.isLt.trans (by decide)
  | _ => simp [RecordBody.carrierCode]

theorem coded_state (st : CarrierState) : Coded stateCodes 0 st.code st := by cases st <;> exact ⟨by decide, rfl⟩
theorem coded_class (q : WakeClass) : Coded classCodes 0 q.rank q := by cases q <;> exact ⟨by decide, rfl⟩
theorem coded_cause (k : Cause) : Coded causeCodes 1 k.code k := by cases k <;> exact ⟨by decide, rfl⟩
theorem coded_reason (r : RefusalReason) : Coded reasonCodes 1 r.code r := by cases r <;> exact ⟨by decide, rfl⟩
theorem coded_timing (v : TimingValue) : Coded [.locked, .holdover, .slip] 1 v.code v := by cases v <;> exact ⟨by decide, rfl⟩
theorem coded_heartbeat (v : HeartbeatState) : Coded [.lapsed, .alive] 1 v.recordCode v := by cases v <;> exact ⟨by decide, rfl⟩

/-! ### Sets of bits -/

theorem foldBits_testBit (bits : List Nat) (n i : Nat) :
    (bits.foldl (fun acc i => acc ||| 2 ^ i) n).testBit i = true ↔ n.testBit i = true ∨ i ∈ bits := by
  induction bits generalizing n with
  | nil => simp
  | cons b bits ih =>
    rw [List.foldl_cons, ih, Nat.testBit_or, Bool.or_eq_true, Nat.testBit_two_pow, decide_eq_true_eq, or_assoc, List.mem_cons]
    rw [eq_comm (a := b)]

theorem bitSet_testBit (bits : List Nat) (i : Nat) : (bitSet bits).testBit i = true ↔ i ∈ bits := by
  rw [bitSet, foldBits_testBit]
  simp

theorem bitSet_lt {bits : List Nat} {n : Nat} (h : ∀ i ∈ bits, i < n) : bitSet bits < 2 ^ n := by
  refine Nat.lt_pow_two_of_testBit _ fun i hi => ?_
  rw [Bool.eq_false_iff, Ne, bitSet_testBit]
  exact fun hm => absurd (h i hm) (by omega)

/-- A set of names is laid out by the place of each in the list of all. -/
theorem bitsOf_bitSet {α : Type} {names : List α} {bit : α → Nat} (nodup : names.Nodup) (place : ∀ x, names[bit x]? = some x)
    (set : List α) : BitsOf names (bitSet (set.map bit)) set := by
  intro i
  rw [bitSet_testBit, List.mem_map]
  refine exists_congr fun x => and_congr_right fun _ => ⟨fun h => h ▸ place x, fun h => ?_⟩
  obtain ⟨hi, hxi⟩ := List.getElem?_eq_some_iff.mp h
  obtain ⟨hx, hxx⟩ := List.getElem?_eq_some_iff.mp (place x)
  exact (nodup.getElem_inj_iff (hi := hx) (hj := hi)).mp (hxx.trans hxi.symm)

theorem clampNameSet_lt (names : List ClampName) : clampNameSet names < 2 ^ 32 := by
  refine bitSet_lt fun i hi => ?_
  obtain ⟨x, -, rfl⟩ := List.mem_map.mp hi
  cases x <;> decide

theorem faultKindSet_lt (kinds : List FaultKind) : faultKindSet kinds < 2 ^ 16 := by
  refine bitSet_lt fun i hi => ?_
  obtain ⟨x, -, rfl⟩ := List.mem_map.mp hi
  cases x <;> decide

theorem bitsOf_clampNameSet (names : List ClampName) : BitsOf clampBits (clampNameSet names) names :=
  bitsOf_bitSet (by decide) (fun x => by cases x <;> rfl) names

theorem bitsOf_faultKindSet (kinds : List FaultKind) : BitsOf faultBits (faultKindSet kinds) kinds :=
  bitsOf_bitSet (by decide) (fun x => by cases x <;> rfl) kinds

/-! ### A record -/

/-- The first beat of a record (R162). -/
def headFields (gap : Bool) (r : Record) : List Field :=
  [⟨0, 1, r.body.kindCode⟩, ⟨1, 1, flagBit gap⟩, ⟨2, 1, r.body.carrierCode⟩, ⟨4, 4, r.window.toNat⟩]

/-- The second beat of a record (R162). -/
def timeFields (r : Record) : List Field := [⟨0, 4, r.seconds⟩, ⟨4, 2, r.slot.toNat⟩]

/-- The third beat of a record (R163). -/
def bodyFields : RecordBody → List Field
  | .stateChange _ left entered cause cls =>
    [⟨0, 1, left.code⟩, ⟨1, 1, entered.code⟩, ⟨2, 1, cause.code⟩, ⟨3, 1, classCode cls⟩]
  | .policyApplied generation names => [⟨0, 4, generation.toNat⟩, ⟨4, 4, clampNameSet names⟩]
  | .policyRefused generation reason index => [⟨0, 4, generation.toNat⟩, ⟨4, 1, reason.code⟩, ⟨5, 1, index⟩]
  | .faultReport l =>
    [⟨0, 2, faultKindSet l.fault.kinds⟩, ⟨2, 1, l.fault.master.toNat⟩, ⟨3, 1, accessCode l.fault.kind + 2 * flagBit l.more⟩,
      ⟨4, 1, l.fault.window.getD 0xFF⟩]
  | .timing value => [⟨0, 1, value.code⟩]
  | .heartbeat value => [⟨0, 1, value.recordCode⟩]
  | .fabricReset => []

theorem encodeRecord_eq (gap : Bool) (r : Record) : encodeRecord gap r =
    [packFields (headFields gap r), packFields (timeFields r), packFields (bodyFields r.body), r.body.fourthBeat] := by
  rw [encodeRecord]
  congr 2
  cases r.body <;> rfl

theorem headFields_fit (gap : Bool) (r : Record) : ∀ f ∈ headFields gap r, f.fits := by
  have kind := kindCode_lt r.body
  have flag := flagBit_lt gap
  have carrier := carrierCode_lt r.body
  have window := r.window.isLt
  simp only [headFields, List.forall_mem_cons, List.not_mem_nil, false_implies, implies_true, and_true, Field.fits]
  omega

theorem timeFields_fit {r : Record} (h : r.seconds < 2 ^ 32) : ∀ f ∈ timeFields r, f.fits := by
  have slot := r.slot.isLt
  simp only [timeFields, List.forall_mem_cons, List.not_mem_nil, false_implies, implies_true, and_true, Field.fits]
  omega

theorem bodyFields_apart (b : RecordBody) : (bodyFields b).Pairwise Field.apart := by
  cases b <;> simp [bodyFields, Field.apart]

theorem bodyFields_fit {r : Record} (fits : RecordFits r) : ∀ f ∈ bodyFields r.body, f.fits := by
  obtain ⟨-, fits⟩ := fits
  cases hb : r.body with
  | stateChange c left entered cause cls =>
    have hl := code_lt left
    have he := code_lt entered
    have hc := causeCode_lt cause
    have hq := classCode_lt cls
    simp only [bodyFields, List.forall_mem_cons, List.not_mem_nil, false_implies, implies_true, and_true, Field.fits]
    omega
  | policyApplied generation names =>
    have hg := generation.isLt
    have hn := clampNameSet_lt names
    simp only [bodyFields, List.forall_mem_cons, List.not_mem_nil, false_implies, implies_true, and_true, Field.fits]
    omega
  | policyRefused generation reason index =>
    have hg := generation.isLt
    have hr := reasonCode_lt reason
    rw [hb] at fits
    simp only [bodyFields, List.forall_mem_cons, List.not_mem_nil, false_implies, implies_true, and_true, Field.fits]
    omega
  | faultReport l =>
    have hk := faultKindSet_lt l.fault.kinds
    have hm := l.fault.master.isLt
    have ha := accessCode_lt l.fault.kind
    have hf := flagBit_lt l.more
    have hw : l.fault.window.getD 0xFF < 256 := by
      rw [hb] at fits
      cases h : l.fault.window with
      | none => decide
      | some i => exact fits i h
    simp only [bodyFields, List.forall_mem_cons, List.not_mem_nil, false_implies, implies_true, and_true, Field.fits]
    omega
  | timing value => cases value <;> simp [bodyFields, Field.fits, TimingValue.code]
  | heartbeat value => cases value <;> simp [bodyFields, Field.fits, HeartbeatState.recordCode]
  | fabricReset => simp [bodyFields]

/-- The body of a record, field by field of its third and fourth beat (R163). -/
theorem bodyLaid_encode (gap : Bool) (r : Record) (fits : RecordFits r) : BodyLaid (encodeRecord gap r) r.body := by
  have fit := bodyFields_fit fits
  have third : ∀ o w, o < 8 → fieldAt (encodeRecord gap r) (0x10 + o) w = bitsAt (packFields (bodyFields r.body)) (8 * o) (8 * w) :=
    fun o w ho => by
      rw [encodeRecord_eq, fieldAt, show (0x10 + o) / 8 = 2 by omega, show (0x10 + o) % 8 = o by omega]
      rfl
  have read : ∀ o w v, ⟨o, w, v⟩ ∈ bodyFields r.body → o < 8 → o + w ≤ 8 → fieldAt (encodeRecord gap r) (0x10 + o) w = v :=
    fun o w v h ho room => (third o w ho).trans (packFields_read (bodyFields_apart r.body) fit h room)
  have unused : ∀ o w, (∀ f ∈ bodyFields r.body, f.apart ⟨o, w, 0⟩) → o < 8 → o + w ≤ 8 →
      fieldAt (encodeRecord gap r) (0x10 + o) w = 0 :=
    fun o w h ho room => (third o w ho).trans (packFields_gap fit o w h room)
  have fourth : fieldAt (encodeRecord gap r) 0x18 8 = bitsAt r.body.fourthBeat 0 64 := rfl
  cases hb : r.body with
  | stateChange c left entered cause cls =>
    rw [hb] at read unused fourth
    refine ⟨?_, ?_, ?_, fun none => ?_, fun k some => ?_, unused 4 4 (by simp [bodyFields, Field.apart]) (by omega) (by omega),
      fourth.trans (bitsAt_zero 0 64)⟩
    · rw [read 0 1 left.code (by simp [bodyFields]) (by omega) (by omega)]; exact coded_state left
    · rw [read 1 1 entered.code (by simp [bodyFields]) (by omega) (by omega)]; exact coded_state entered
    · rw [read 2 1 cause.code (by simp [bodyFields]) (by omega) (by omega)]; exact coded_cause cause
    · rw [read 3 1 (classCode cls) (by simp [bodyFields]) (by omega) (by omega), none]; rfl
    · rw [read 3 1 (classCode cls) (by simp [bodyFields]) (by omega) (by omega), some]; exact coded_class k
  | policyApplied generation names =>
    rw [hb] at read unused fourth
    refine ⟨read 0 4 _ (by simp [bodyFields]) (by omega) (by omega), ?_, fourth.trans (bitsAt_zero 0 64)⟩
    rw [read 4 4 (clampNameSet names) (by simp [bodyFields]) (by omega) (by omega)]
    exact bitsOf_clampNameSet names
  | policyRefused generation reason index =>
    rw [hb] at read unused fourth
    refine ⟨read 0 4 _ (by simp [bodyFields]) (by omega) (by omega), ?_, read 5 1 _ (by simp [bodyFields]) (by omega) (by omega),
      unused 6 2 (by simp [bodyFields, Field.apart]) (by omega) (by omega), fourth.trans (bitsAt_zero 0 64)⟩
    rw [read 4 1 reason.code (by simp [bodyFields]) (by omega) (by omega)]
    exact coded_reason reason
  | faultReport l =>
    rw [hb] at read unused fourth
    have window := read 4 1 (l.fault.window.getD 0xFF) (by simp [bodyFields]) (by omega) (by omega)
    refine ⟨?_, read 2 1 _ (by simp [bodyFields]) (by omega) (by omega), ?_, fun none => ?_, fun i some => ?_,
      unused 5 1 (by simp [bodyFields, Field.apart]) (by omega) (by omega),
      unused 6 2 (by simp [bodyFields, Field.apart]) (by omega) (by omega), ?_⟩
    · rw [read 0 2 (faultKindSet l.fault.kinds) (by simp [bodyFields]) (by omega) (by omega)]
      exact bitsOf_faultKindSet l.fault.kinds
    · rw [read 3 1 (accessCode l.fault.kind + 2 * flagBit l.more) (by simp [bodyFields]) (by omega) (by omega)]
      cases l.fault.kind <;> cases l.more <;> rfl
    · rw [window, none]; rfl
    · rw [window, some]; rfl
    · have address : ∀ f ∈ [(⟨0, 8, l.fault.address.toNat⟩ : Field)], f.fits := by
        have := l.fault.address.isLt
        simp only [List.forall_mem_cons, List.not_mem_nil, false_implies, implies_true, and_true, Field.fits]
        omega
      exact fourth.trans (packFields_read (by simp) address (List.mem_singleton.mpr rfl) le_rfl)
  | timing value =>
    rw [hb] at read unused fourth
    refine ⟨?_, unused 1 1 (by simp [bodyFields, Field.apart]) (by omega) (by omega),
      unused 2 2 (by simp [bodyFields, Field.apart]) (by omega) (by omega),
      unused 4 4 (by simp [bodyFields, Field.apart]) (by omega) (by omega), fourth.trans (bitsAt_zero 0 64)⟩
    rw [read 0 1 value.code (by simp [bodyFields]) (by omega) (by omega)]
    exact coded_timing value
  | heartbeat value =>
    rw [hb] at read unused fourth
    refine ⟨?_, unused 1 1 (by simp [bodyFields, Field.apart]) (by omega) (by omega),
      unused 2 2 (by simp [bodyFields, Field.apart]) (by omega) (by omega),
      unused 4 4 (by simp [bodyFields, Field.apart]) (by omega) (by omega), fourth.trans (bitsAt_zero 0 64)⟩
    rw [read 0 1 value.recordCode (by simp [bodyFields]) (by omega) (by omega)]
    exact coded_heartbeat value
  | fabricReset =>
    rw [hb] at unused fourth
    exact ⟨unused 0 8 (by simp [bodyFields]) (by omega) (by omega), fourth.trans (bitsAt_zero 0 64)⟩

/-- A record as it is laid out (R162, R163). -/
theorem recordLaid_encode (gap : Bool) (r : Record) (fits : RecordFits r) : RecordLaid gap r (encodeRecord gap r) := by
  have headFit := headFields_fit gap r
  have timeFit := timeFields_fit (r := r) fits.1
  have head : ∀ o w v, ⟨o, w, v⟩ ∈ headFields gap r → o < 8 → o + w ≤ 8 → fieldAt (encodeRecord gap r) o w = v := fun o w v h ho room => by
    rw [encodeRecord_eq, fieldAt, Nat.div_eq_of_lt ho, Nat.mod_eq_of_lt ho]
    exact packFields_read (by simp [headFields, Field.apart]) headFit h room
  have time : ∀ o w v, ⟨o, w, v⟩ ∈ timeFields r → o < 8 → o + w ≤ 8 → fieldAt (encodeRecord gap r) (8 + o) w = v := fun o w v h ho room => by
    rw [encodeRecord_eq, fieldAt, show (8 + o) / 8 = 1 by omega, show (8 + o) % 8 = o by omega]
    exact packFields_read (by simp [timeFields, Field.apart]) timeFit h room
  have kind : kindByte r.body = r.body.kindCode := by cases r.body <;> rfl
  have carrier := head 2 1 r.body.carrierCode (by simp [headFields]) (by omega) (by omega)
  refine ⟨rfl, ?_, head 1 1 (flagBit gap) (by simp [headFields]) (by omega) (by omega), fun c left entered cause cls h => ?_,
    fun other => ?_, ?_, head 4 4 _ (by simp [headFields]) (by omega) (by omega), time 0 4 _ (by simp [timeFields]) (by omega) (by omega),
    time 4 2 _ (by simp [timeFields]) (by omega) (by omega), ?_, bodyLaid_encode gap r fits⟩
  · rw [head 0 1 r.body.kindCode (by simp [headFields]) (by omega) (by omega), kind]
  · rw [carrier, h]; rfl
  · rw [carrier]
    cases hb : r.body <;> simp_all [kindByte, RecordBody.carrierCode]
  · rw [encodeRecord_eq]
    exact packFields_gap headFit 3 1 (by simp [headFields, Field.apart]) (by omega)
  · rw [encodeRecord_eq]
    exact packFields_gap timeFit 6 2 (by simp [timeFields, Field.apart]) (by omega)

/-- An entry of the status block as it is laid out (R162). -/
theorem entryLaid_encode (state : CarrierState) (cls : Option WakeClass) (f : Figures) (hl : f.load < 2 ^ 14) (hu : f.lastU < 2 ^ 10)
    (hx : f.latchedLight < 2 ^ 16) (hy : f.latchedOff < 2 ^ 16) : EntryLaid state cls f (encodeEntry state cls f) := by
  have hs := code_lt state
  have hc := classCode_lt cls
  have sum : (encodeEntry state cls f).toNat = state.code + classCode cls * 2 ^ 4 + f.load * 2 ^ 6 + f.lastU * 2 ^ 20
      + f.latchedLight * 2 ^ 32 + f.latchedOff * 2 ^ 48 := by
    rw [encodeEntry, BitVec.toNat_ofNat, Nat.mod_eq_of_lt (by omega)]
  have code : bitsAt (encodeEntry state cls f) 0 4 = state.code := by rw [bitsAt, sum]; omega
  have class' : bitsAt (encodeEntry state cls f) 4 2 = classCode cls := by rw [bitsAt, sum]; omega
  refine ⟨?_, fun none => ?_, fun k some => ?_, ?_, ?_, ?_, ?_, ?_⟩
  · rw [code]; exact coded_state state
  · rw [class', none]; rfl
  · rw [class', some]; exact coded_class k
  all_goals rw [bitsAt, sum]; omega

/-- Settles O53: the layouts, and the grant of the oldest pending write. -/
theorem reportGrantResult : Obligations.ReportGrantResult := by
  refine ⟨recordLaid_encode, entryLaid_encode, fun fields i hi => packBeat_getLsbD fields hi,
    fun s ring w rest hq free hring hp turn => ?_⟩
  have choice : s.arbiterChoice = some .report :=
    choice_report free ((reportWaits_iff s).mpr ⟨by rw [hring]; rfl, by rw [hp]; simp⟩) turn
  let r := s.report.request ring w
  have granted : s.grantReport = (State.send { s with
      transit := { s.transit with turn := .report }, report := s.report.granted w rest } r).appendEntry (ownEntry w r) := by
    rw [State.grantReport, hring, hp]
  have enables : ∀ (a : Nat) (l : List BeatData), (∀ b ∈ (ownWrite a l).data, b.enables = 0xFF)
      ∧ (ownWrite a l).data.map Beat.data = l := fun a l => by simp [ownWrite, Function.comp_def]
  refine ⟨s.grantReport, r, ?_, ?_, ?_, ?_, fun gap rec h => ?_, fun h => ?_, fun a d h => ?_, ?_, ?_, ?_, ?_, grantReport_changes s⟩
  · rw [exec, execReportGrant, settleAtOnce_quiet hq, arbitrate_first choice]; rfl
  · cases w <;> rfl
  · cases w <;> rfl
  · cases w <;> exact (enables _ _).1
  · subst h; exact ⟨(enables _ _).2, rfl⟩
  · subst h; exact ⟨rfl, (enables _ _).2⟩
  · subst h; exact ⟨(BitVec.ofNat_toNat 40 a).trans (BitVec.setWidth_eq a), (enables _ _).2⟩
  all_goals rw [granted]; rfl

/-! ### The mirror read field by field -/

/-- The bytes of a buffer from an address, least significant first, by recursion and as a sum. -/
theorem readNat_eq (m : Memory) (a width : Nat) : m.readNat a width = mirrorField m a width := by
  induction width generalizing a with
  | zero => rfl
  | succ width ih =>
    rw [Memory.readNat, ih, mirrorField, mirrorField, List.range_succ_eq_map, List.map_cons, List.sum_cons, List.map_map,
      ← List.sum_map_mul_left]
    congr 1
    · simp
    · congr 1
      refine List.map_congr_left fun i _ => ?_
      rw [Function.comp_apply, pow_succ, show a + 1 + i = a + i.succ by omega]
      ring

theorem readNat_lt (m : Memory) (a width : Nat) : m.readNat a width < 2 ^ (8 * width) := by
  induction width generalizing a with
  | zero => simp [Memory.readNat]
  | succ width ih =>
    have byte := (m.read a).isLt
    have rest := ih (a + 1)
    rw [Memory.readNat, show 2 ^ (8 * (width + 1)) = 256 * 2 ^ (8 * width) by rw [Nat.mul_add, Nat.pow_add]; omega]
    omega

/-- The lower bytes of a field. -/
theorem readNat_mod (m : Memory) (a width more : Nat) : m.readNat a (width + more) % 2 ^ (8 * width) = m.readNat a width := by
  induction width generalizing a with
  | zero => simp [Memory.readNat, Nat.mod_one]
  | succ width ih =>
    have byte := (m.read a).isLt
    rw [Nat.add_right_comm, Memory.readNat, Memory.readNat, ← ih (a + 1), Nat.mul_add, Nat.add_comm (8 * width), Nat.pow_add,
      Nat.mod_mul, show 2 ^ (8 * 1) = 256 by rfl, Nat.add_mul_mod_self_left, Nat.mod_eq_of_lt byte,
      Nat.add_mul_div_left _ _ (by omega), Nat.div_eq_of_lt byte, Nat.zero_add]

/-- A bit of a field is a bit of one of its bytes. -/
theorem readNat_testBit (m : Memory) (a width i : Nat) (hi : i < 8 * width) :
    (m.readNat a width).testBit i = m.flag (a + i / 8) (i % 8) := by
  induction width generalizing a i with
  | zero => omega
  | succ width ih =>
    rw [Memory.readNat, Nat.add_comm, show 256 = 2 ^ 8 by rfl, Nat.testBit_two_pow_mul_add _ (m.read a).isLt]
    split
    · next h => rw [Nat.div_eq_of_lt h, Nat.mod_eq_of_lt h]; rfl
    · next h =>
      rw [ih (a + 1) (i - 8) (by omega), show a + 1 + (i - 8) / 8 = a + i / 8 by omega, show (i - 8) % 8 = i % 8 by omega]

theorem mirrorField_testBit (m : Memory) (a : Nat) {i : Nat} (hi : i < 8) : (mirrorField m a 1).testBit i = m.flag a i := by
  rw [← readNat_eq, readNat_testBit m a 1 i (by omega), Nat.div_eq_of_lt hi, Nat.mod_eq_of_lt hi]
  rfl

theorem masterAt_toNat (m : Memory) (a : Nat) : (m.masterAt a).toNat = mirrorField m a 1 % 8 := by
  rw [← readNat_eq]
  simp [Memory.masterAt, Memory.readNat, BitVec.extractLsb'_toNat]

theorem addressAt_eq (m : Memory) (a : Nat) : m.addressAt a = mirrorField m a 8 % 2 ^ 40 := by
  rw [← readNat_eq, Memory.addressAt]
  exact (readNat_mod m a 5 3).symm

theorem keepAwake_read (m : Memory) (c : Carrier) : mirrorKeepAwake m c = (mirrorField m 0x010 3).testBit c.val := by
  rw [← readNat_eq, readNat_testBit m 0x010 3 c.val (by have := c.isLt; omega), mirrorKeepAwake]

theorem globalsLaid_read (m : Memory) : GlobalsLaid m (readGlobals m) := by
  refine ⟨readNat_eq .., readNat_eq .., masterAt_toNat .., masterAt_toNat .., readNat_eq .., readNat_eq .., readNat_eq .., readNat_eq ..,
    (mirrorField_testBit m 0x049 (by omega)).symm, readNat_eq .., readNat_eq .., readNat_eq .., readNat_eq .., readNat_eq ..,
    readNat_eq .., readNat_eq .., readNat_eq .., addressAt_eq ..⟩

theorem entryRead_read (m : Memory) (c : Carrier) (h : m.flag (entryOffset c) 0 = true) : EntryRead m (entryOffset c) (readEntry m c) := by
  have bit : ∀ i, i < 8 → m.flag (entryOffset c) i = (mirrorField m (entryOffset c) 1).testBit i := fun i hi =>
    (mirrorField_testBit m _ hi).symm
  rw [readEntry, if_pos h]
  refine ⟨?_, bit 2 (by omega), bit 3 (by omega), bit 4 (by omega), bit 5 (by omega), bit 6 (by omega), readNat_eq .., readNat_eq ..,
    readNat_eq .., readNat_eq .., readNat_eq .., addressAt_eq .., readNat_eq .., readNat_eq .., readNat_eq .., ?_, readNat_eq ..,
    readNat_eq .., readNat_eq ..⟩
  · rw [← bit 1 (by omega)]; rfl
  · simp only [roleAt, ← readNat_eq]
    cases m.flag (entryOffset c) 1 <;> rfl

theorem regionRead (m : Memory) : RegionRead m := by
  have entry : ∀ c, (readPolicy m).entries.get c = readEntry m c := fun c => get_tabulate _ c
  have present : ∀ c, (readEntry m c).present = m.flag (entryOffset c) 0 := fun c => by
    rw [readEntry]
    split <;> simp_all [CarrierValues.cleared]
  refine ⟨?_, ?_, readNat_eq .., keepAwake_read m, globalsLaid_read m, fun c => ?_⟩
  · rw [mirrorGeneration, BitVec.toNat_ofNat, Nat.mod_eq_of_lt (readNat_lt m 0 4), readNat_eq]
  · rw [mirrorConsumer, BitVec.toNat_ofNat, Nat.mod_eq_of_lt (readNat_lt m 8 2), readNat_eq]
  · rw [entry, present]
    refine ⟨(mirrorField_testBit m _ (by omega)).symm, entryRead_read m c, fun h => ?_⟩
    rw [readEntry]
    exact if_neg (by rw [h]; simp)

/-! ### Merges -/

theorem read_mergeByte {m : Memory} (h : m.wf = true) (a : Nat) (b : Beat) (j x : Nat) : (mergeByte m a b j).read x =
    if x = a + j ∧ b.enables.getLsbD j = true then beatByte b.data j else m.read x := by
  rw [mergeByte]
  by_cases he : b.enables.getLsbD j = true
  · rw [if_pos he, read_write h]
    simp only [he, and_true]
  · rw [if_neg he, if_neg (fun k => he k.2)]

/-- Bytes merged one after the other: each enabled one replaces its own. -/
theorem read_foldl_mergeByte {m : Memory} (h : m.wf = true) (a : Nat) (b : Beat) (js : List Nat) (x : Nat) :
    (js.foldl (fun m j => mergeByte m a b j) m).read x =
      if a ≤ x ∧ x - a ∈ js ∧ b.enables.getLsbD (x - a) = true then beatByte b.data (x - a) else m.read x := by
  induction js generalizing m with
  | nil => simp
  | cons j js ih =>
    rw [List.foldl_cons, ih (wf_mergeByte h a b j), read_mergeByte h]
    by_cases own : x = a + j
    · subst own
      by_cases he : b.enables.getLsbD j = true <;> simp [he]
    · have other : a ≤ x → x - a ≠ j := by omega
      have kept : (if x = a + j ∧ b.enables.getLsbD j = true then beatByte b.data j else m.read x) = m.read x :=
        if_neg fun k => own k.1
      rw [kept]
      refine if_congr ?_ rfl rfl
      rw [List.mem_cons]
      exact and_congr_right fun hle => by simp [other hle]

/-- Settles O39: the merge byte by byte, and the region field by field. -/
theorem mergeByBytes : Obligations.MergeByBytes := by
  refine ⟨fun m a b h x => ?_, regionRead⟩
  rw [mergeBeat, read_foldl_mergeByte h]
  refine if_congr ?_ rfl rfl
  have inside : a ≤ x → (x - a ∈ [0, 1, 2, 3, 4, 5, 6, 7] ↔ x < a + 8) := fun hle => by
    simp only [List.mem_cons, List.not_mem_nil, or_false]
    omega
  exact and_congr_right fun hle => by rw [inside hle]

end Sys2Proof.Machine
end

section
/-! PROOF. Clamps and validation: the ranges of the applied values (R86, R144), the windows of a valid generation, and the reasons
of refusal in their order (R141 to R143). -/

namespace Sys2Proof.Machine

/-! ### The clamps -/

theorem clampTo_clamped {low high : Nat} (h : low ≤ high) (n : Nat) : Clamped low high n (clampTo low high n) := by
  rw [clampTo, Clamped]
  omega

theorem min_clamped (high n : Nat) : Clamped 0 high n (min high n) := by
  rw [Clamped]
  omega

/-- What the ordering steps make of two thresholds, the lower `a` and the upper `b`: each within 1000, and the upper moved above the
lower where it was not (R86). -/
structure Ordered (a b a' b' : Nat) : Prop where
  kept : min a 1000 < min b 1000 → a' = min a 1000 ∧ b' = min b 1000
  raised : min b 1000 ≤ min a 1000 → min a 1000 < 1000 → a' = min a 1000 ∧ b' = min a 1000 + 1
  lowered : min b 1000 ≤ min a 1000 → min a 1000 = 1000 → a' = 999 ∧ b' = 1000

namespace Ordered

variable {a b a' b' : Nat}

theorem within (h : Ordered a b a' b') : a' < b' ∧ b' ≤ 1000 := by
  obtain ⟨kept, raised, lowered⟩ := h
  omega

theorem same (h : Ordered a b a' b') (hab : a < b) (hb : b ≤ 1000) : a' = a ∧ b' = b := by
  obtain ⟨kept, -, -⟩ := h
  omega

end Ordered

/-- The ordering steps as the clamps make them: the lower brought below 1000, then the upper above it. -/
theorem ordered_steps (a b lower : Nat) (h : lower = if min 1000 b ≤ min 1000 a ∧ min 1000 a = 1000 then 999 else min 1000 a) :
    Ordered a b lower (if min 1000 b ≤ min 1000 a then lower + 1 else min 1000 b) := by
  by_cases crossed : min 1000 b ≤ min 1000 a
  · rw [if_pos crossed]
    by_cases top : min 1000 a = 1000
    · rw [if_pos ⟨crossed, top⟩] at h
      constructor <;> omega
    · rw [if_neg fun k => top k.2] at h
      constructor <;> omega
  · rw [if_neg crossed]
    rw [if_neg fun k => crossed k.1] at h
    constructor <;> omega

theorem clampThresholds_ordered (v : CarrierValues) :
    Ordered v.tSleep v.tWake (clampThresholds v).tSleep (clampThresholds v).tWake := ordered_steps _ _ _ rfl

theorem clampThresholds_tDeep (v : CarrierValues) : (clampThresholds v).tDeep = min v.tDeep (clampThresholds v).tSleep := by
  simp only [clampThresholds]
  split <;> split <;> omega

theorem clampLimits_ordered (l : AnchorLimits) : Ordered l.cAdm l.cOvl (clampLimits l).cAdm (clampLimits l).cOvl :=
  ordered_steps _ _ _ rfl

theorem clampEntry_of_present {v : CarrierValues} (h : v.present = true) :
    clampEntry v = { clampThresholds v with
      rbMax := clampRbMax v.rbMax
      weight := clampTo 1 4 v.weight
      warmupTimeout := clampTo 10 4000 v.warmupTimeout
      limits := v.limits.map clampLimits } := if_pos h

/-- The largest weight is that of some present carrier, and at least that of each. -/
theorem foldl_largest (entries : Table CarrierValues) (l : List Carrier) (n : Nat) :
    (n ≤ l.foldl (fun n c => if (entries.get c).present then max n (entries.get c).weight else n) n
      ∧ ∀ c ∈ l, (entries.get c).present = true →
        (entries.get c).weight ≤ l.foldl (fun n c => if (entries.get c).present then max n (entries.get c).weight else n) n)
    ∧ (l.foldl (fun n c => if (entries.get c).present then max n (entries.get c).weight else n) n = n
      ∨ ∃ c : Carrier, (entries.get c).present = true
        ∧ l.foldl (fun n c => if (entries.get c).present then max n (entries.get c).weight else n) n = (entries.get c).weight) := by
  induction l generalizing n with
  | nil => exact ⟨⟨Nat.le_refl _, by simp⟩, .inl rfl⟩
  | cons c l ih =>
    rw [List.foldl_cons]
    obtain ⟨⟨below, each⟩, reached⟩ := ih (if (entries.get c).present then max n (entries.get c).weight else n)
    by_cases hp : (entries.get c).present = true
    · rw [if_pos hp] at below each reached ⊢
      refine ⟨⟨by omega, List.forall_mem_cons.mpr ⟨fun _ => by omega, each⟩⟩, ?_⟩
      obtain e | e := reached
      · rw [e]
        obtain hle | hle := Nat.le_total n (entries.get c).weight
        · exact .inr ⟨c, hp, by omega⟩
        · exact .inl (by omega)
      · exact .inr e
    · rw [if_neg hp] at below each reached ⊢
      exact ⟨⟨below, List.forall_mem_cons.mpr ⟨fun h => absurd h hp, each⟩⟩, reached⟩

theorem largestWeight_spec (entries : Table CarrierValues) :
    (∀ c : Carrier, (entries.get c).present = true → (entries.get c).weight ≤ largestWeight entries)
    ∧ (largestWeight entries = 0 ∨ ∃ c : Carrier, (entries.get c).present = true ∧ largestWeight entries = (entries.get c).weight) :=
  ⟨fun c => (foldl_largest entries carriers 0).1.2 c (mem_carriers c), (foldl_largest entries carriers 0).2⟩

/-- A clamped weight is at most 16, so the largest one is. -/
theorem clampEntry_weight {v : CarrierValues} (h : (clampEntry v).present = true) : (clampEntry v).weight ≤ 4 := by
  rw [clampEntry_present] at h
  rw [clampEntry_of_present h]
  exact (clampTo_clamped (by omega) _).2.1

theorem clampEntry_ranges {v : CarrierValues} (h : v.present = true) :
    (clampEntry v).tDeep ≤ (clampEntry v).tSleep ∧ (clampEntry v).tSleep < (clampEntry v).tWake ∧ (clampEntry v).tWake ≤ 1000
    ∧ (v.tDeep ≤ v.tSleep → v.tSleep < v.tWake → v.tWake ≤ 1000 →
        (clampEntry v).tDeep = v.tDeep ∧ (clampEntry v).tSleep = v.tSleep ∧ (clampEntry v).tWake = v.tWake)
    ∧ (∀ sleep wake, sleep = min v.tSleep 1000 → wake = min v.tWake 1000 →
        (sleep < wake → (clampEntry v).tSleep = sleep ∧ (clampEntry v).tWake = wake)
        ∧ (wake ≤ sleep → sleep < 1000 → (clampEntry v).tSleep = sleep ∧ (clampEntry v).tWake = sleep + 1)
        ∧ (wake ≤ sleep → sleep = 1000 → (clampEntry v).tSleep = 999 ∧ (clampEntry v).tWake = 1000)
        ∧ (clampEntry v).tDeep = min v.tDeep (clampEntry v).tSleep) := by
  rw [clampEntry_of_present h]
  have o := clampThresholds_ordered v
  have deep := clampThresholds_tDeep v
  obtain ⟨below, bound⟩ := o.within
  refine ⟨deep.trans_le (min_le_right _ _), below, bound, fun h1 h2 h3 => ?_, ?_⟩
  · obtain ⟨hs, hw⟩ := o.same h2 h3
    exact ⟨by rw [deep, hs]; omega, hs, hw⟩
  · rintro sleep wake rfl rfl
    exact ⟨o.kept, o.raised, o.lowered, deep⟩

theorem clampEntry_limits {v : CarrierValues} (h : v.present = true) :
    (∀ l adm ovl, v.limits = some l → adm = min l.cAdm 1000 → ovl = min l.cOvl 1000 →
      (adm < ovl → (clampEntry v).limits = some { cAdm := adm, cOvl := ovl })
      ∧ (ovl ≤ adm → adm < 1000 → (clampEntry v).limits = some { cAdm := adm, cOvl := adm + 1 })
      ∧ (ovl ≤ adm → adm = 1000 → (clampEntry v).limits = some { cAdm := 999, cOvl := 1000 }))
    ∧ (v.limits = none → (clampEntry v).limits = none)
    ∧ (∀ l ∈ (clampEntry v).limits, l.cAdm < l.cOvl ∧ l.cOvl ≤ 1000)
    ∧ (∀ l ∈ v.limits, l.cAdm < l.cOvl → l.cOvl ≤ 1000 → (clampEntry v).limits = some l) := by
  rw [clampEntry_of_present h]
  have made : ∀ {l : AnchorLimits} {a b : Nat}, v.limits = some l → (clampLimits l).cAdm = a ∧ (clampLimits l).cOvl = b →
      v.limits.map clampLimits = some { cAdm := a, cOvl := b } := fun hl hab => by
    rw [hl, Option.map_some, ← hab.1, ← hab.2]
  refine ⟨?_, fun hn => by rw [hn]; rfl, ?_, fun l hl h1 h2 => made hl ((clampLimits_ordered l).same h1 h2)⟩
  · rintro l adm ovl hl rfl rfl
    have o := clampLimits_ordered l
    exact ⟨fun h1 => made hl (o.kept h1), fun h1 h2 => made hl (o.raised h1 h2), fun h1 h2 => made hl (o.lowered h1 h2)⟩
  · intro l hl
    obtain ⟨m, -, rfl⟩ := Option.map_eq_some_iff.mp hl
    exact (clampLimits_ordered m).within

/-- The budget limit is the larger of its value brought into 1 to 16 and the largest clamped weight (R144). -/
theorem clampPolicy_budget (p : Policy) : (clampPolicy p).globals.budgetLimit
    = max (clampTo 1 16 p.globals.budgetLimit) (largestWeight (clampPolicy p).entries) := rfl

/-- Settles O47. -/
theorem clampsInRange : Obligations.ClampsInRange := by
  refine ⟨fun v h => ?_, ?_⟩
  · obtain ⟨r1, r2, r3, r4, r5⟩ := clampEntry_ranges h
    obtain ⟨l1, l2, l3, l4⟩ := clampEntry_limits h
    refine ⟨r1, r2, r3, r4, r5, l1, l2, l3, l4, ?_⟩
    rw [clampEntry_of_present h]
    exact ⟨clampTo_clamped (by omega) _, clampTo_clamped (by omega) _, clampTo_clamped (by omega) _⟩
  · rintro p before after rfl rfl
    obtain ⟨atLeast, reached⟩ := largestWeight_spec (clampPolicy p).entries
    have budget := clampPolicy_budget p
    have weights : largestWeight (clampPolicy p).entries ≤ 4 := by
      obtain e | ⟨c, hp, e⟩ := reached
      · omega
      · rw [e, clampPolicy_entry]
        exact clampEntry_weight (by rwa [clampPolicy_entry] at hp)
    rw [clampTo] at budget
    refine ⟨min_clamped 3 _, clampTo_clamped (by omega) _, min_clamped 4 _, min_clamped 15 _, min_clamped _ _, min_clamped _ _,
      clampTo_clamped (by omega) _, clampTo_clamped (by omega) _, clampTo_clamped (by omega) _, by omega, by omega,
      fun c hp => (atLeast c hp).trans (by omega), fun h1 h2 fits => ?_, by omega, ?_, rfl, rfl, rfl, rfl, rfl, rfl, rfl, rfl⟩
    · obtain e | ⟨c, hp, e⟩ := reached
      · omega
      · have := fits c hp
        omega
    · by_cases larger : largestWeight (clampPolicy p).entries ≤ max 1 (min 16 p.globals.budgetLimit)
      · exact .inl (by omega)
      · obtain e | ⟨c, hp, e⟩ := reached
        · omega
        · exact .inr ⟨c, hp, by omega⟩

/-! ### The windows of a valid generation -/

theorem overlaps_iff (x y : Window) : x.overlaps y = true ↔ x.base < y.base + y.size ∧ y.base < x.base + x.size := by
  rw [Window.overlaps, Bool.and_eq_true, decide_eq_true_eq, decide_eq_true_eq]

/-- Two windows overlap exactly where they share an address. -/
theorem overlaps_iff_shared {x y : Window} (hx : 0 < x.size) (hy : 0 < y.size) : x.overlaps y = true ↔
    ∃ a, (x.base ≤ a ∧ a < x.base + x.size) ∧ y.base ≤ a ∧ a < y.base + y.size := by
  rw [overlaps_iff]
  constructor
  · rintro ⟨h1, h2⟩
    exact ⟨max x.base y.base, by omega, by omega⟩
  · rintro ⟨a, h1, h2⟩
    omega

theorem overlaps_comm (x y : Window) : x.overlaps y = y.overlaps x := by
  rw [Window.overlaps, Window.overlaps, Bool.and_comm]

theorem overlaps_false_apart {x y : Window} (h : x.overlaps y = false) (a : Nat) :
    ¬(x.base ≤ a ∧ a < x.base + x.size ∧ y.base ≤ a ∧ a < y.base + y.size) := by
  rintro ⟨h1, h2, h3, h4⟩
  rw [Bool.eq_false_iff, ne_eq, overlaps_iff] at h
  omega

/-- No overlap is found exactly where no window overlaps the region or one before it. -/
theorem firstOverlap_eq_none {region : Window} {earlier l : List Window} : firstOverlap region earlier l = none ↔
    (∀ x ∈ l, ∀ y ∈ region :: earlier, x.overlaps y = false) ∧ l.Pairwise (fun x y => y.overlaps x = false) := by
  induction l generalizing earlier with
  | nil => simp [firstOverlap]
  | cons x l ih =>
    rw [firstOverlap]
    cases hf : (region :: earlier).find? (fun y => x.overlaps y) with
    | some y =>
      simp only [reduceCtorEq, false_iff]
      rintro ⟨all, -⟩
      have := List.find?_some hf
      rw [all x List.mem_cons_self y (List.mem_of_find?_eq_some hf)] at this
      exact Bool.noConfusion this
    | none =>
      have clear : ∀ y ∈ region :: earlier, x.overlaps y = false := fun y hy => by
        simpa using (List.find?_eq_none.mp hf) y hy
      simp only [ih, List.pairwise_cons, List.forall_mem_cons, List.mem_append, List.mem_singleton, or_imp, forall_and,
        forall_eq] at clear ⊢
      tauto

/-- The descriptor windows of a policy, ascending (R46). -/
def Policy.descriptorWindows (p : Policy) : List Window :=
  p.presentCarriers.map fun c => shapeWindow (c.val, (p.entries.get c).windowBase, (p.entries.get c).windowSizeCode)

/-- The report window of a policy (R46). -/
def Policy.reportWindow (p : Policy) : Window := shapeWindow (25, p.globals.reportBase, p.globals.reportSizeCode)

theorem shapes_windows (p : Policy) : p.shapes.map shapeWindow = p.descriptorWindows ++ [p.reportWindow] := by
  rw [Policy.shapes, List.map_append, List.map_map]
  rfl

theorem clampEntry_window (v : CarrierValues) :
    (clampEntry v).windowBase = v.windowBase ∧ (clampEntry v).windowSizeCode = v.windowSizeCode := by
  rw [clampEntry]
  split <;> exact ⟨rfl, rfl⟩

theorem clampPolicy_presentCarriers (p : Policy) : (clampPolicy p).presentCarriers = p.presentCarriers := by
  simp only [Policy.presentCarriers, clampPolicy_entry, clampEntry_present]

/-- The clamps leave every window. -/
theorem windowTable_clamped (base : Nat) (p : Policy) :
    windowTable base (clampPolicy p) = p.descriptorWindows ++ [policyWindow base, p.reportWindow] := by
  rw [windowTable, clampPolicy_presentCarriers, Policy.descriptorWindows]
  simp only [clampPolicy_entry, (clampEntry_window _).1, (clampEntry_window _).2]
  rfl

theorem windowTable_disjoint {s : State} {p : Policy} (h : validate s p = none) :
    (windowTable s.transit.policyBase (clampPolicy p)).Pairwise (fun x y => x.overlaps y = false) := by
  obtain ⟨-, -, -, -, overlaps, -⟩ := validate_eq_none.mp h
  rw [checkOverlaps, Option.map_eq_none_iff, firstOverlap_eq_none, shapes_windows] at overlaps
  obtain ⟨clear, apart⟩ := overlaps
  have region : ∀ x ∈ p.descriptorWindows ++ [p.reportWindow], x.overlaps (policyWindow s.transit.policyBase) = false := fun x hx =>
    clear x hx _ List.mem_cons_self
  obtain ⟨descriptors, -, report⟩ := List.pairwise_append.mp apart
  rw [windowTable_clamped, List.pairwise_append]
  refine ⟨descriptors.imp fun hxy => (overlaps_comm _ _).trans hxy, ?_, fun x hx y hy => ?_⟩
  · rw [List.pairwise_pair, overlaps_comm]
    exact region _ (by simp)
  · obtain rfl | rfl : y = policyWindow s.transit.policyBase ∨ y = p.reportWindow := by simpa using hy
    · exact region x (List.mem_append_left _ hx)
    · exact (overlaps_comm _ _).trans (report x hx _ (by simp))

/-- Settles O48. -/
theorem validWindowsDisjoint : Obligations.ValidWindowsDisjoint := by
  intro s p h
  have apart := windowTable_disjoint h
  refine ⟨apart, apart.imp fun hxy a => overlaps_false_apart hxy a, fun a x y hx hy inX inY => ?_⟩
  simp only [Window.contains, Bool.and_eq_true, decide_eq_true_eq] at inX inY
  by_contra other
  have symmetric : Std.Symm fun x y : Window => x.overlaps y = false := ⟨fun _ _ hxy => (overlaps_comm _ _).trans hxy⟩
  exact overlaps_false_apart (apart.forall hx hy other) a ⟨inX.1, inX.2, inY.1, inY.2⟩

end Sys2Proof.Machine
end

section
/-! PROOF. Validation (R140 to R143): each of the eight checks finds its reason with the index R141 and R142 give, and the first that
finds one decides. -/

namespace Sys2Proof.Machine

/-! ### The lowest index -/

theorem lowest_congr {P Q : Nat → Prop} (h : ∀ n, P n ↔ Q n) (i : Nat) : Lowest P i ↔ Lowest Q i := by
  rw [funext fun n => propext (h n)]

/-- The first element found in an ordered list is the least that has the property. -/
theorem find?_eq_some_iff_least {α : Type} {R : α → α → Prop} (asymm : ∀ x y, R x y → ¬R y x) {l : List α} (hs : l.Pairwise R)
    (q : α → Bool) (x : α) : l.find? q = some x ↔ x ∈ l ∧ q x = true ∧ ∀ y ∈ l, q y = true → ¬R y x := by
  induction l with
  | nil => simp
  | cons z l ih =>
    obtain ⟨above, hl⟩ := List.pairwise_cons.mp hs
    cases hq : q z with
    | true =>
      rw [List.find?_cons_of_pos hq, Option.some_inj]
      constructor
      · rintro rfl
        refine ⟨List.mem_cons_self, hq, List.forall_mem_cons.mpr ⟨fun _ h => asymm _ _ h h, fun y hy _ => asymm _ _ (above y hy)⟩⟩
      · rintro ⟨hx, -, least⟩
        obtain rfl | hx := List.mem_cons.mp hx
        · rfl
        · exact absurd (above x hx) (least z List.mem_cons_self hq)
    | false =>
      rw [List.find?_cons_of_neg (by simp [hq]), ih hl]
      constructor
      · rintro ⟨hx, hqx, least⟩
        exact ⟨List.mem_cons_of_mem _ hx, hqx, List.forall_mem_cons.mpr ⟨by simp [hq], least⟩⟩
      · rintro ⟨hx, hqx, least⟩
        obtain rfl | hx := List.mem_cons.mp hx
        · simp [hq] at hqx
        · exact ⟨hx, hqx, (List.forall_mem_cons.mp least).2⟩

/-- The first element found in an ascending list has the lowest index. -/
theorem find?_lowest {α : Type} {key : α → Nat} {l : List α} (hs : l.Pairwise fun x y => key x < key y) (q : α → Bool) (i : Nat) :
    (l.find? q).map key = some i ↔ Lowest (fun n => ∃ x ∈ l, key x = n ∧ q x = true) i := by
  simp only [Option.map_eq_some_iff, find?_eq_some_iff_least (fun x y => Nat.lt_asymm) hs, Lowest]
  constructor
  · rintro ⟨x, ⟨hx, hq, least⟩, rfl⟩
    exact ⟨⟨x, hx, rfl, hq⟩, fun j hj ⟨y, hy, hk, hqy⟩ => least y hy hqy (hk ▸ hj)⟩
  · rintro ⟨⟨x, hx, rfl, hq⟩, none⟩
    exact ⟨x, ⟨hx, hq, fun y hy hqy hlt => none _ hlt ⟨y, hy, rfl, hqy⟩⟩, rfl⟩

/-- A check by the first element found, with the reason it reports. -/
theorem check_lowest {α : Type} {key : α → Nat} {l : List α} (hs : l.Pairwise fun x y => key x < key y) (q : α → Bool)
    (reason r : RefusalReason) (i : Nat) :
    (l.find? q).map (fun x => (reason, key x)) = some (r, i) ↔
      r = reason ∧ Lowest (fun n => ∃ x ∈ l, key x = n ∧ q x = true) i := by
  rw [← find?_lowest hs, eq_comm (a := r)]
  cases l.find? q <;> simp

theorem carriers_ascend : carriers.Pairwise fun c d => c.val < d.val := by decide

theorem sectors_ascend : sectors.Pairwise fun k l => id k < id l := by decide

theorem presentCarriers_ascend (p : Policy) : p.presentCarriers.Pairwise fun c d => c.val < d.val := carriers_ascend.filter _

theorem mem_sectors {k : Nat} : k ∈ sectors ↔ k < 6 := List.mem_range

theorem mem_presentCarriers {p : Policy} {c : Carrier} : c ∈ p.presentCarriers ↔ (p.entries.get c).present = true := by
  simp [Policy.presentCarriers, mem_carriers]

/-- A condition on the sectors, as the checks of the sectors state it. -/
theorem check_sectors (q : Nat → Bool) (P : Nat → Prop) (reason r : RefusalReason) (i : Nat) (h : ∀ k, q k = true ↔ P k) :
    (sectors.find? q).map (fun k => (reason, k)) = some (r, i) ↔ r = reason ∧ Lowest (fun n => n < 6 ∧ P n) i := by
  rw [show (fun k : Nat => (reason, k)) = fun k => (reason, id k) from rfl, check_lowest sectors_ascend]
  refine and_congr_right fun _ => lowest_congr (fun n => ?_) i
  simp [mem_sectors, h]

/-! ### The masters, the sectors and the anchors -/

theorem checkMasters_iff (s : State) (p : Policy) (r : RefusalReason) (i : Nat) :
    checkMasters p = some (r, i) ↔ r = .masterClash ∧ Refuses s p i .masterClash := by
  rw [checkMasters, Refuses]
  simp only [beq_iff_eq, Bool.or_eq_true, or_assoc]
  split
  · next h => simp only [h, and_true, Option.some_inj, Prod.mk.injEq, eq_comm]
  · next h => simp only [h, and_false, reduceCtorEq]

theorem checkSectors_iff (s : State) (p : Policy) (r : RefusalReason) (i : Nat) :
    checkSectors p = some (r, i) ↔ r = .sectorRange ∧ Refuses s p i .sectorRange := by
  rw [checkSectors, check_lowest (presentCarriers_ascend p), Refuses]
  refine and_congr_right fun _ => lowest_congr (fun n => exists_congr fun c => ?_) i
  rw [mem_presentCarriers, decide_eq_true_eq]
  tauto

/-- A list without repetition has one element exactly where it has a unique one. -/
theorem length_eq_one_iff_unique {α : Type} {l : List α} (h : l.Nodup) : l.length = 1 ↔ ∃ a, a ∈ l ∧ ∀ b, b ∈ l → b = a := by
  rw [List.length_eq_one_iff]
  constructor
  · rintro ⟨a, rfl⟩
    exact ⟨a, by simp, by simp⟩
  · rintro ⟨a, ha, unique⟩
    exact ⟨a, List.perm_singleton.mp ((List.perm_ext_iff_of_nodup h (List.nodup_singleton a)).mpr fun b =>
      ⟨fun hb => by simp [unique b hb], fun hb => by simpa [List.mem_singleton.mp hb] using ha⟩)⟩

theorem mem_members {p : Policy} {k : Nat} {c : Carrier} : c ∈ p.members k ↔ MemberThen p k c := by
  simp [Policy.members, mem_presentCarriers, MemberThen]

theorem anchors_nodup (p : Policy) (k : Nat) : (p.anchors k).Nodup := ((carriers_nodup.filter _).filter _).filter _

theorem checkAnchors_iff (s : State) (p : Policy) (r : RefusalReason) (i : Nat) :
    checkAnchors p = some (r, i) ↔ r = .anchorCount ∧ Refuses s p i .anchorCount := by
  rw [checkAnchors, Refuses]
  refine check_sectors _ (fun k => (∃ c : Carrier, MemberThen p k c) ∧ ¬∃ a, AnchorIn p k a ∧ ∀ b, AnchorIn p k b → b = a) _ r i
    fun k => ?_
  have some : (p.members k).isEmpty = false ↔ ∃ c : Carrier, MemberThen p k c := by
    simp only [← mem_members, List.isEmpty_eq_false_iff_exists_mem]
  rw [Bool.and_eq_true, Bool.not_eq_true', some, bne_iff_ne, ne_eq, length_eq_one_iff_unique (anchors_nodup p k)]
  simp only [mem_anchors]

/-! ### The shapes of the windows -/

theorem mem_shapes {p : Policy} {i base code : Nat} : (i, base, code) ∈ p.shapes ↔ HasWindow p i base code := by
  simp only [Policy.shapes, List.mem_append, List.mem_map, mem_presentCarriers, List.mem_singleton, Prod.mk.injEq, HasWindow]
  refine or_congr_left (exists_congr fun c => ?_)
  tauto

theorem shapes_ascend (p : Policy) : p.shapes.Pairwise fun x y => x.1 < y.1 := by
  rw [Policy.shapes, List.pairwise_append, List.pairwise_map]
  refine ⟨presentCarriers_ascend p, List.pairwise_singleton _ _, fun x hx y hy => ?_⟩
  obtain ⟨c, -, rfl⟩ := List.mem_map.mp hx
  obtain rfl := List.mem_singleton.mp hy
  exact Nat.lt_trans c.isLt (by omega)

theorem checkShapes_iff (s : State) (p : Policy) (r : RefusalReason) (i : Nat) :
    checkShapes p = some (r, i) ↔ r = .windowShape ∧ Refuses s p i .windowShape := by
  rw [checkShapes, check_lowest (shapes_ascend p), Refuses]
  refine and_congr_right fun _ => lowest_congr (fun n => ?_) i
  constructor
  · rintro ⟨⟨j, base, code⟩, hm, rfl, hq⟩
    exact ⟨base, code, mem_shapes.mp hm, by simpa [windowBytes] using hq⟩
  · rintro ⟨base, code, hw, hq⟩
    exact ⟨(n, base, code), mem_shapes.mpr hw, rfl, by simpa [windowBytes] using hq⟩

/-! ### The overlaps of the windows -/

/-- The pairs of windows in the order the fifth check takes them. -/
def overlapPairs (region : Window) (l : List Window) : List (Window × Window) :=
  l.flatMap fun x => (region :: l.filter fun y => y.index < x.index).map fun y => (x, y)

theorem mem_overlapPairs {region : Window} {l : List Window} {x y : Window} : (x, y) ∈ overlapPairs region l ↔
    x ∈ l ∧ (y = region ∨ y ∈ l ∧ y.index < x.index) := by
  simp only [overlapPairs, List.mem_flatMap, List.mem_map, List.mem_cons, List.mem_filter, decide_eq_true_eq, Prod.mk.injEq]
  constructor
  · rintro ⟨x, hx, y, hy, rfl, rfl⟩
    exact ⟨hx, hy⟩
  · rintro ⟨hx, hy⟩
    exact ⟨x, hx, y, hy, rfl, rfl⟩

/-- The check stands at the window after those already compared. -/
theorem firstOverlap_eq_find {region : Window} {earlier l all : List Window} (h : all = earlier ++ l)
    (hs : all.Pairwise fun x y => x.index < y.index) : firstOverlap region earlier l =
      ((l.flatMap fun x => (region :: all.filter fun y => y.index < x.index).map fun y => (x, y)).find?
        fun pair => pair.1.overlaps pair.2).map fun pair => min pair.1.index pair.2.index := by
  induction l generalizing earlier with
  | nil => rfl
  | cons x l ih =>
    have before : (all.filter fun y => y.index < x.index) = earlier := by
      rw [h] at hs ⊢
      obtain ⟨-, hl, hx⟩ := List.pairwise_append.mp hs
      obtain ⟨above, -⟩ := List.pairwise_cons.mp hl
      rw [List.filter_append, List.filter_eq_self.mpr fun y hy => by simpa using hx y hy x List.mem_cons_self,
        List.filter_eq_nil_iff.mpr ?_, List.append_nil]
      refine List.forall_mem_cons.mpr ⟨by simp, fun y hy => ?_⟩
      have := above y hy
      simp only [decide_eq_true_eq]
      omega
    rw [firstOverlap, List.flatMap_cons, List.find?_append, List.find?_map, before, ih (earlier := earlier ++ [x]) (by simp [h])]
    simp only [Function.comp_def]
    cases (region :: earlier).find? (fun y => x.overlaps y) <;> rfl

theorem pairBefore_asymm (x y v w : Nat) (h : PairBefore x y v w) : ¬PairBefore v w x y := by
  rw [PairBefore] at h ⊢
  omega

theorem overlapPairs_ordered {region : Window} {l : List Window} (hr : region.index = 24) (h24 : ∀ x ∈ l, x.index ≠ 24)
    (hs : l.Pairwise fun x y => x.index < y.index) : (overlapPairs region l).Pairwise fun a b =>
      PairBefore a.1.index a.2.index b.1.index b.2.index := by
  rw [overlapPairs, List.pairwise_flatMap]
  refine ⟨fun x hx => ?_, hs.imp fun {x y} hxy => ?_⟩
  · rw [List.pairwise_map, List.pairwise_cons]
    exact ⟨fun y hy => .inr ⟨rfl, h24 y (List.mem_filter.mp hy).1, .inl hr⟩,
      ((hs.imp_of_mem fun {y z} _ hz hyz => .inr ⟨rfl, h24 z hz, .inr hyz⟩).filter _)⟩
  · rintro a ha b hb
    obtain ⟨-, -, rfl⟩ := List.mem_map.mp ha
    obtain ⟨-, -, rfl⟩ := List.mem_map.mp hb
    exact .inl hxy

theorem inWindow_iff {p : Policy} {i a : Nat} : InWindow p i a ↔
    ∃ w ∈ p.shapes.map shapeWindow, w.index = i ∧ w.base ≤ a ∧ a < w.base + w.size := by
  constructor
  · rintro ⟨base, code, hw, inside⟩
    exact ⟨_, List.mem_map_of_mem (mem_shapes.mpr hw), rfl, inside⟩
  · rintro ⟨w, hw, rfl, inside⟩
    obtain ⟨⟨j, base, code⟩, hm, rfl⟩ := List.mem_map.mp hw
    exact ⟨base, code, mem_shapes.mp hm, inside⟩

theorem shapeWindow_size_pos {p : Policy} {w : Window} (h : w ∈ p.shapes.map shapeWindow) : 0 < w.size := by
  obtain ⟨x, -, rfl⟩ := List.mem_map.mp h
  exact Nat.mul_pos (by omega) (Nat.two_pow_pos _)

theorem shapeWindow_index {p : Policy} {w : Window} (h : w ∈ p.shapes.map shapeWindow) : w.index ≠ 24 := by
  obtain ⟨⟨j, base, code⟩, hm, rfl⟩ := List.mem_map.mp h
  obtain ⟨c, rfl, -⟩ | ⟨rfl, -⟩ := mem_shapes.mp hm
  · exact c.isLt.ne
  · simp [shapeWindow]

/-- The pairs that share a byte are those of the check that overlap. -/
theorem sharesByte_iff {s : State} {p : Policy} {x y : Nat} : SharesByte s p x y ↔
    ∃ pair ∈ overlapPairs (policyWindow s.transit.policyBase) (p.shapes.map shapeWindow),
      pair.1.overlaps pair.2 = true ∧ pair.1.index = x ∧ pair.2.index = y := by
  have region : 0 < (policyWindow s.transit.policyBase).size := by simp [policyWindow, Config.regionSize]
  constructor
  · rintro ⟨a, inX, ⟨rfl, inside⟩ | ⟨-, lower, inY⟩⟩
    · obtain ⟨w, hw, rfl, inW⟩ := inWindow_iff.mp inX
      exact ⟨(w, policyWindow s.transit.policyBase), mem_overlapPairs.mpr ⟨hw, .inl rfl⟩,
        (overlaps_iff_shared (shapeWindow_size_pos hw) region).mpr ⟨a, inW, inside⟩, rfl, rfl⟩
    · obtain ⟨w, hw, rfl, inW⟩ := inWindow_iff.mp inX
      obtain ⟨v, hv, rfl, inV⟩ := inWindow_iff.mp inY
      exact ⟨(w, v), mem_overlapPairs.mpr ⟨hw, .inr ⟨hv, lower⟩⟩,
        (overlaps_iff_shared (shapeWindow_size_pos hw) (shapeWindow_size_pos hv)).mpr ⟨a, inW, inV⟩, rfl, rfl⟩
  · rintro ⟨⟨w, v⟩, hm, overlap, rfl, rfl⟩
    obtain ⟨hw, rfl | ⟨hv, lower⟩⟩ := mem_overlapPairs.mp hm
    · obtain ⟨a, inW, inside⟩ := (overlaps_iff_shared (shapeWindow_size_pos hw) region).mp overlap
      exact ⟨a, inWindow_iff.mpr ⟨w, hw, rfl, inW⟩, .inl ⟨rfl, inside⟩⟩
    · obtain ⟨a, inW, inV⟩ := (overlaps_iff_shared (shapeWindow_size_pos hw) (shapeWindow_size_pos hv)).mp overlap
      exact ⟨a, inWindow_iff.mpr ⟨w, hw, rfl, inW⟩,
        .inr ⟨shapeWindow_index hv, lower, inWindow_iff.mpr ⟨v, hv, rfl, inV⟩⟩⟩

theorem checkOverlaps_iff (s : State) (p : Policy) (r : RefusalReason) (i : Nat) :
    checkOverlaps s.transit.policyBase p = some (r, i) ↔ r = .windowOverlap ∧ Refuses s p i .windowOverlap := by
  have ascend : (p.shapes.map shapeWindow).Pairwise fun x y => x.index < y.index := List.pairwise_map.mpr (shapes_ascend p)
  have ordered := overlapPairs_ordered (region := policyWindow s.transit.policyBase) rfl (fun _ => shapeWindow_index) ascend
  rw [checkOverlaps, firstOverlap_eq_find (List.nil_append _).symm ascend, ← overlapPairs, Refuses]
  simp only [Option.map_map, Option.map_eq_some_iff, Function.comp_apply, Prod.mk.injEq,
    find?_eq_some_iff_least (fun _ _ => pairBefore_asymm _ _ _ _) ordered, sharesByte_iff]
  constructor
  · rintro ⟨pair, ⟨hm, overlap, least⟩, rfl, rfl⟩
    refine ⟨rfl, _, _, ⟨pair, hm, overlap, rfl, rfl⟩, rfl, ?_⟩
    rintro _ _ ⟨other, ho, hover, rfl, rfl⟩
    exact least other ho hover
  · rintro ⟨rfl, _, _, ⟨pair, hm, overlap, rfl, rfl⟩, rfl, least⟩
    exact ⟨pair, ⟨hm, overlap, fun other ho hover => least _ _ ⟨other, ho, hover, rfl, rfl⟩⟩, rfl, rfl⟩

theorem checkRing_iff (s : State) (p : Policy) (r : RefusalReason) (i : Nat) :
    checkRing p = some (r, i) ↔ r = .ringShape ∧ Refuses s p i .ringShape := by
  have cond : (!ringCapacities.contains p.globals.ringCapacity
      || decide (windowBytes p.globals.reportSizeCode < 256 + 32 * p.globals.ringCapacity)) = true ↔
      p.globals.ringCapacity ∉ [16, 32, 64, 128, 256, 512, 1024]
        ∨ 4096 * 2 ^ p.globals.reportSizeCode < 256 + 32 * p.globals.ringCapacity := by
    rw [Bool.or_eq_true, Bool.not_eq_true', decide_eq_true_eq, ← Bool.not_eq_true, List.contains_iff_mem]
    rfl
  rw [checkRing, Refuses]
  split
  · next h => simp only [cond.mp h, and_true, Option.some_inj, Prod.mk.injEq, eq_comm]
  · next h => simp only [mt cond.mpr h, and_false, reduceCtorEq]

/-! ### The busy carriers and sectors -/

theorem structuralChange_iff (v w : CarrierValues) : structuralChange v w = true ↔ StructureDiffers v w := by
  simp only [structuralChange, Bool.or_eq_true, bne_iff_ne, StructureDiffers, or_assoc, clampRbMax, clampTo]

theorem busy_iff (s : State) (c : Carrier) : (s.carrier c).state.busy = true ↔ IsBusy s c := by
  rw [IsBusy]
  cases (s.carrier c).state <;> simp [CarrierState.busy]

theorem checkBusyCarriers_iff (s : State) (p : Policy) (r : RefusalReason) (i : Nat) :
    checkBusyCarriers s p = some (r, i) ↔ r = .busyCarrier ∧ Refuses s p i .busyCarrier := by
  rw [checkBusyCarriers, check_lowest carriers_ascend, Refuses]
  refine and_congr_right fun _ => lowest_congr (fun n => exists_congr fun c => ?_) i
  rw [busyChange, Bool.and_eq_true, busy_iff, structuralChange_iff]
  simp [mem_carriers]

theorem filter_carriers_eq_iff {q r : Carrier → Bool} :
    carriers.filter q = carriers.filter r ↔ ∀ c, q c = true ↔ r c = true := by
  constructor
  · intro h c
    have : c ∈ carriers.filter q ↔ c ∈ carriers.filter r := by rw [h]
    simpa [mem_carriers] using this
  · intro h
    exact List.filter_congr fun c _ => Bool.eq_iff_iff.mpr (h c)

theorem tableMembers_ne_iff (s : State) (p : Policy) (k : Nat) :
    s.tableMembers k ≠ p.members k ↔ ∃ d, ¬(MemberNow s k d ↔ MemberThen p k d) := by
  rw [← not_forall, not_iff_not, State.tableMembers, Policy.members, Policy.presentCarriers, List.filter_filter,
    filter_carriers_eq_iff]
  refine forall_congr' fun c => ?_
  simp only [Bool.and_eq_true, beq_iff_eq, MemberNow, MemberThen, and_comm]

theorem tableAnchors_ne_iff (s : State) (p : Policy) (k : Nat) : s.tableAnchors k ≠ p.anchors k ↔
    ∃ d, ¬((MemberNow s k d ∧ (s.carrier d).values.role = .anchor) ↔ AnchorIn p k d) := by
  rw [← not_forall, not_iff_not, State.tableAnchors, State.tableMembers, Policy.anchors, Policy.members, Policy.presentCarriers,
    List.filter_filter, List.filter_filter, List.filter_filter, filter_carriers_eq_iff]
  refine forall_congr' fun c => ?_
  simp only [Bool.and_eq_true, beq_iff_eq, MemberNow, AnchorIn]
  tauto

theorem checkBusySectors_iff (s : State) (p : Policy) (r : RefusalReason) (i : Nat) :
    checkBusySectors s p = some (r, i) ↔ r = .busySector ∧ Refuses s p i .busySector := by
  rw [checkBusySectors, Refuses]
  refine check_sectors _ (fun k => (∃ c : Carrier, MemberNow s k c ∧ IsBusy s c)
      ∧ ∃ d : Carrier, ¬(MemberNow s k d ↔ MemberThen p k d)
        ∨ ¬((MemberNow s k d ∧ (s.carrier d).values.role = .anchor) ↔ AnchorIn p k d)) _ r i fun k => ?_
  have member : ∀ c, c ∈ s.tableMembers k ↔ MemberNow s k c := fun c => by
    simp [State.tableMembers, mem_carriers, MemberNow]
  rw [busySectorChange, Bool.and_eq_true, Bool.or_eq_true, decide_eq_true_eq, decide_eq_true_eq, tableMembers_ne_iff,
    tableAnchors_ne_iff, List.any_eq_true, exists_or]
  simp only [member, busy_iff]

/-! ### The first reason -/

/-- The check of a reason. -/
def checkOf (s : State) (p : Policy) : RefusalReason → Option (RefusalReason × Nat)
  | .masterClash => checkMasters p
  | .sectorRange => checkSectors p
  | .anchorCount => checkAnchors p
  | .windowShape => checkShapes p
  | .windowOverlap => checkOverlaps s.transit.policyBase p
  | .ringShape => checkRing p
  | .busyCarrier => checkBusyCarriers s p
  | .busySector => checkBusySectors s p

/-- The reasons in the order of their checks. -/
def orderedReasons : List RefusalReason :=
  [.masterClash, .sectorRange, .anchorCount, .windowShape, .windowOverlap, .ringShape, .busyCarrier, .busySector]

theorem checkOf_iff (s : State) (p : Policy) (reason r : RefusalReason) (i : Nat) :
    checkOf s p reason = some (r, i) ↔ r = reason ∧ Refuses s p i reason := by
  cases reason with
  | masterClash => exact checkMasters_iff s p r i
  | sectorRange => exact checkSectors_iff s p r i
  | anchorCount => exact checkAnchors_iff s p r i
  | windowShape => exact checkShapes_iff s p r i
  | windowOverlap => exact checkOverlaps_iff s p r i
  | ringShape => exact checkRing_iff s p r i
  | busyCarrier => exact checkBusyCarriers_iff s p r i
  | busySector => exact checkBusySectors_iff s p r i

theorem checkOf_isSome_iff (s : State) (p : Policy) (reason : RefusalReason) :
    (checkOf s p reason).isSome = true ↔ ∃ i, Refuses s p i reason := by
  rw [Option.isSome_iff_exists]
  simp only [Prod.exists, checkOf_iff]
  exact ⟨fun ⟨_, i, _, h⟩ => ⟨i, h⟩, fun ⟨i, h⟩ => ⟨reason, i, rfl, h⟩⟩

/-- Validation is the check of the first reason whose check finds something. -/
theorem validate_eq_find (s : State) (p : Policy) :
    validate s p = (orderedReasons.find? fun r => (checkOf s p r).isSome).bind (checkOf s p) := by
  have next : ∀ (r : RefusalReason) (l : List RefusalReason), ((r :: l).find? fun r => (checkOf s p r).isSome).bind (checkOf s p)
      = (checkOf s p r).or ((l.find? fun r => (checkOf s p r).isSome).bind (checkOf s p)) := fun r l => by
    rw [List.find?_cons]
    cases h : checkOf s p r <;> simp [h]
  simp only [orderedReasons, next, List.find?_nil, Option.bind_none, Option.or_none]
  rfl

theorem orderedReasons_ordered : orderedReasons.Pairwise fun r q => r.order < q.order := by decide

theorem mem_orderedReasons (r : RefusalReason) : r ∈ orderedReasons := by
  cases r <;> decide

theorem validate_eq_some (s : State) (p : Policy) (reason : RefusalReason) (i : Nat) : validate s p = some (reason, i) ↔
    Refuses s p i reason ∧ ∀ (earlier : RefusalReason) (j : Nat), Refuses s p j earlier → reason.order ≤ earlier.order := by
  simp only [validate_eq_find, Option.bind_eq_some_iff, checkOf_iff, checkOf_isSome_iff,
    find?_eq_some_iff_least (fun _ _ => Nat.lt_asymm) orderedReasons_ordered]
  constructor
  · rintro ⟨_, ⟨-, -, least⟩, rfl, refuses⟩
    exact ⟨refuses, fun earlier j h => Nat.not_lt.mp (least earlier (mem_orderedReasons _) ⟨j, h⟩)⟩
  · rintro ⟨refuses, least⟩
    exact ⟨reason, ⟨mem_orderedReasons _, ⟨i, refuses⟩, fun earlier _ ⟨j, h⟩ => Nat.not_lt.mpr (least earlier j h)⟩, rfl, refuses⟩

theorem validate_none_iff (s : State) (p : Policy) :
    validate s p = none ↔ ∀ (reason : RefusalReason) (i : Nat), ¬Refuses s p i reason := by
  rw [validate_eq_find, Option.bind_eq_none_iff]
  constructor
  · intro passes reason i refuses
    cases hf : orderedReasons.find? fun r => (checkOf s p r).isSome with
    | none =>
      exact List.find?_eq_none.mp hf reason (mem_orderedReasons _) ((checkOf_isSome_iff s p reason).mpr ⟨i, refuses⟩)
    | some r =>
      have found : (checkOf s p r).isSome = true := List.find?_some (p := fun r => (checkOf s p r).isSome) hf
      rw [passes r hf] at found
      exact Bool.noConfusion found
  · intro passes r hf
    obtain ⟨i, refuses⟩ := (checkOf_isSome_iff s p r).mp (List.find?_some (p := fun r => (checkOf s p r).isSome) hf)
    exact absurd refuses (passes r i)

theorem staged_iff (l : PolicyLoader) : l.staged = true ↔
    mirrorGeneration l.mirror ≠ 0 ∧ mirrorGeneration l.mirror ≠ l.lastApplied ∧ mirrorGeneration l.mirror ≠ l.lastRefused := by
  simp only [PolicyLoader.staged, Bool.and_eq_true, bne_iff_ne, and_assoc]

theorem exec_generation {s : State} {rest : List Due} (hq : Quiet s) (h : firstDue (fun d => d == .generation) s.due = some (.generation, rest)) :
    exec .generationApplication s = .next (State.takeGeneration { s with due := rest }) := by
  rw [exec, execGenerationApplication, settleAtOnce_quiet hq, takeNamed_found h]
  rfl

/-- Settles O45. -/
theorem generationNotApplied : Obligations.GenerationNotApplied := by
  refine ⟨staged_iff, fun s p => ⟨validate_eq_some s p, validate_none_iff s p⟩, fun s rest hq hdue => ⟨fun unstaged => ?_, ?_⟩⟩
  · rw [exec_generation hq hdue, State.takeGeneration, if_neg (by simp [unstaged])]
  · intro reason index staged refused
    have same : validate { s with due := rest } (readPolicy s.loader.mirror) = validate s (readPolicy s.loader.mirror) := rfl
    refine ⟨State.refuseGeneration { s with due := rest } reason index, ?_, rfl, rfl, rfl, ?_⟩
    · rw [exec_generation hq hdue, State.takeGeneration, if_pos staged, same, refused]
    · exact (dropDue_changes s rest).seq (refuseGeneration_changes _ reason index)

end Sys2Proof.Machine
end

section
/-! PROOF. A verdict list taken by the Carrier Controller (O35, O36): each verdict applied or dropped by the state it finds, and a
list taken whole or in part. -/

namespace Sys2Proof.Machine

/-! ### What is done carrier by carrier -/

/-- A step taken at each carrier of a list, each changing what is seen at its own carrier alone. -/
theorem foldl_each {α : Type} {view : State → Carrier → α} {f : State → Carrier → State} {new : Carrier → α → α} {Ok : State → Prop}
    (keeps : ∀ s c, Ok s → Ok (f s c))
    (hf : ∀ s c d, Ok s → view (f s c) d = if c = d then new c (view s c) else view s d)
    {l : List Carrier} (nodup : l.Nodup) {s : State} (hs : Ok s) (d : Carrier) :
    view (l.foldl f s) d = if d ∈ l then new d (view s d) else view s d := by
  induction l generalizing s with
  | nil => simp
  | cons c l ih =>
    obtain ⟨fresh, nodup⟩ := List.nodup_cons.mp nodup
    rw [List.foldl_cons, ih nodup (keeps s c hs), hf s c d hs]
    by_cases own : c = d
    · subst own
      simp [fresh]
    · simp [own, Ne.symm own]

/-- The drain backoff of a carrier's record lowered (R89). -/
def CarrierRecord.lowered (r : CarrierRecord) : CarrierRecord :=
  if (r.values.present && r.values.role == .capacity) = true then { r with backoff := r.backoff - 1 } else r

theorem decrementBackoff_carrier (s : State) (c d : Carrier) :
    (decrementBackoff s c).carrier d = if c = d then (s.carrier c).lowered else s.carrier d := by
  rw [decrementBackoff, CarrierRecord.lowered, State.isCapacity]
  split
  · rw [carrier_setCarrier]
  · split
    · next own => rw [own]
    · rfl

/-- The drain backoffs lowered (R89). -/
theorem decrementAll_carrier (s : State) (d : Carrier) :
    (carriers.foldl decrementBackoff s).carrier d = (s.carrier d).lowered := by
  rw [foldl_each (view := State.carrier) (Ok := fun _ => True) (new := fun _ => CarrierRecord.lowered) (fun _ _ _ => trivial)
    (fun s c d _ => decrementBackoff_carrier s c d) carriers_nodup trivial, if_pos (mem_carriers d)]

/-! ### One verdict -/

theorem maySleep_iff (s : State) (c : Carrier) : s.maySleep c = true ↔
    ((s.carrier c).values.present = true ∧ (s.carrier c).values.role = .capacity)
    ∧ (∃ a : Carrier, (s.carrier a).values.present = true ∧ (s.carrier a).values.role = .anchor
        ∧ (s.carrier a).values.sector = (s.carrier c).values.sector ∧ (s.carrier a).state = .on)
    ∧ (s.loader.mirror.read (0x010 + c.val / 8)).getLsbD (c.val % 8) = false := by
  rw [State.maySleep, Bool.and_eq_true, Bool.and_eq_true, anchorOn_iff, State.isCapacity, Bool.and_eq_true, beq_iff_eq,
    Bool.not_eq_true', and_assoc]
  simp only [State.isAnchor, Bool.and_eq_true, beq_iff_eq, and_assoc]
  rfl

section Applied

variable {s : State} {v : Verdict}

theorem applyVerdict_drain (hk : v.kind = .drain) (hs : (s.carrier v.carrier).state = .on) (may : s.maySleep v.carrier = true) :
    s.applyVerdict v = s.transition v.carrier .draining .lowLoad none := by
  simp [State.applyVerdict, hk, hs, may]

theorem applyVerdict_deepen (hk : v.kind = .deepen) (hs : (s.carrier v.carrier).state = .light)
    (may : s.maySleep v.carrier = true) : s.applyVerdict v = s.transition v.carrier .deep .deepen none := by
  simp [State.applyVerdict, hk, hs, may]

theorem applyVerdict_awake (h : v.kind = .cancelDrain ∧ (s.carrier v.carrier).state = .draining
    ∨ v.kind = .wakeLight ∧ (s.carrier v.carrier).state = .light) :
    s.applyVerdict v = s.transition v.carrier .on v.cause none := by
  obtain ⟨hk, hs⟩ | ⟨hk, hs⟩ := h <;> simp [State.applyVerdict, hk, hs]

theorem applyVerdict_queued (hk : v.kind = .wakeDeep) (hs : (s.carrier v.carrier).state = .deep) :
    s.applyVerdict v = s.queueCarrier v.carrier v.cause v.cls := by
  simp [State.applyVerdict, hk, hs]

/-- A verdict that does not find its carrier as it names it is dropped (R24). -/
theorem applyVerdict_dropped (h : v.kind = .drain ∧ ((s.carrier v.carrier).state ≠ .on ∨ s.maySleep v.carrier = false)
    ∨ v.kind = .deepen ∧ ((s.carrier v.carrier).state ≠ .light ∨ s.maySleep v.carrier = false)
    ∨ v.kind = .cancelDrain ∧ (s.carrier v.carrier).state ≠ .draining
    ∨ v.kind = .wakeLight ∧ (s.carrier v.carrier).state ≠ .light
    ∨ v.kind = .wakeDeep ∧ (s.carrier v.carrier).state ≠ .deep) : s.applyVerdict v = s := by
  rw [State.applyVerdict]
  split <;> simp_all

end Applied

/-! ### A list -/

/-- The state in which a list finds the carriers: the backoffs lowered where the list is fresh (R89). -/
def State.beforeVerdicts (s : State) (fresh : Bool) : State := if fresh then carriers.foldl decrementBackoff s else s

theorem beforeVerdicts_changes (s : State) (fresh : Bool) : OnlyChanges s (s.beforeVerdicts fresh) [.controller] := by
  rw [State.beforeVerdicts]
  split
  · exact foldl_onlyChanges _ _ decrementBackoff_changes _ _
  · exact .refl _ _

theorem beforeVerdicts_carrier (s : State) (fresh : Bool) (c : Carrier) : (s.beforeVerdicts fresh).carrier c =
    if fresh = true ∧ s.isCapacity c = true then { s.carrier c with backoff := (s.carrier c).backoff - 1 } else s.carrier c := by
  rw [State.beforeVerdicts]
  cases fresh with
  | true => simp only [if_true, decrementAll_carrier, CarrierRecord.lowered, State.isCapacity, true_and]
  | false => simp

/-- All of a list taken. -/
theorem takeVerdicts_all (s : State) (fresh : Bool) (list : List Verdict) {n : Nat} (h : list.length ≤ n) :
    s.takeVerdicts fresh list n = list.foldl State.applyVerdict (s.beforeVerdicts fresh) := by
  rw [State.takeVerdicts, List.take_of_length_le h, State.beforeVerdicts]
  simp only [if_neg (Nat.not_lt.mpr h)]

theorem takeVerdicts_whole (s : State) (fresh : Bool) (list : List Verdict) :
    s.takeVerdicts fresh list (verdictCount none list) = list.foldl State.applyVerdict (s.beforeVerdicts fresh) :=
  takeVerdicts_all s fresh list (Nat.le_refl _)

/-- The first of a list taken: the others stay outstanding. -/
theorem takeVerdicts_part (s : State) (fresh : Bool) (list : List Verdict) {n : Nat} (h : n < list.length) :
    s.takeVerdicts fresh list n = (list.take n).foldl State.applyVerdict
      { s.beforeVerdicts fresh with due := .verdicts false (list.drop n) :: (s.beforeVerdicts fresh).due } := by
  rw [State.takeVerdicts, State.beforeVerdicts]
  simp only [if_pos h]

theorem exec_verdicts {s : State} {fresh : Bool} {list : List Verdict} {rest : List Due} (hq : Quiet s)
    (h : firstDue isVerdicts s.due = some (.verdicts fresh list, rest)) (upTo : Option Nat) :
    exec (.verdictList upTo) s = .next (State.takeVerdicts { s with due := rest } fresh list (verdictCount upTo list)) := by
  rw [exec, execVerdictList, settleAtOnce_quiet hq]
  simp only [h]

theorem exec_verdict {s : State} {v : Verdict} {rest : List Due} (hq : Quiet s)
    (h : firstDue isVerdicts s.due = some (.verdicts false [v], rest)) :
    exec (.verdictList none) s = .next (State.applyVerdict { s with due := rest } v) := by
  rw [exec_verdicts hq h, takeVerdicts_whole]
  rfl

/-- Settles O36. -/
theorem verdictListParts : Obligations.VerdictListParts := by
  refine ⟨fun s fresh list rest hq h => ?_, fun s v hq => ?_⟩
  · have changes := beforeVerdicts_changes { s with due := rest } fresh
    refine ⟨State.beforeVerdicts { s with due := rest } fresh, beforeVerdicts_carrier _ _, changes.due,
      (dropDue_changes s rest).seq changes, ?_, fun n => ⟨fun part => ?_, fun all => ?_⟩⟩
    · rw [exec_verdicts hq h, takeVerdicts_whole]
    · rw [exec_verdicts hq h, verdictCount, takeVerdicts_part _ _ _ part, changes.due]
    · rw [exec_verdicts hq h, exec_verdicts hq h, takeVerdicts_whole, verdictCount, takeVerdicts_all _ _ _ all]
  · have quiet : Quiet { s with due := .verdicts false [v] :: s.due } := List.forall_mem_cons.mpr ⟨rfl, hq⟩
    exact exec_verdict quiet rfl

/-- Settles O35, by what each kind of verdict does in the state it finds. -/
theorem verdictTable : Obligations.VerdictTable := by
  refine ⟨maySleep_iff, fun s v rest hq h => ?_⟩
  have dropped : OnlyChanges s { s with due := rest } [.due] := dropDue_changes s rest
  have record : ∀ c, State.carrier { s with due := rest } c = s.carrier c := fun _ => rfl
  have moved : ∀ (st : CarrierState) (k : Cause), ¬((s.carrier v.carrier).state = .warming ∧ st = .on) →
      ∀ t, t = State.transition { s with due := rest } v.carrier st k none →
        t.carrier v.carrier = (s.carrier v.carrier).enter st none ∧ OthersKept s t v.carrier
        ∧ Handed s t (.stateChange v.carrier (s.carrier v.carrier).state st k none) ∧ t.due = rest
        ∧ OnlyChanges s t [.controller, .report, .due] := by
    rintro st k other _ rfl
    exact ⟨transition_carrier_same _ _ _ _ _, transition_othersKept _ _ _ _ _, transition_handed _ _ _ _ _,
      (transition_changes _ _ st k none).due, dropped.seq (transition_changes_plain _ _ st k none other)⟩
  rw [exec_verdict hq h]
  refine ⟨fun hk hs may => ?_, fun hk hs may => ?_, fun hks => ?_, fun hk hs => ?_, fun hd => ?_⟩
  · have step := moved .draining .lowLoad (by simp) _ rfl
    rw [hs] at step
    exact ⟨_, congrArg _ (applyVerdict_drain hk hs may), step⟩
  · have step := moved .deep .deepen (by simp) _ rfl
    rw [hs] at step
    exact ⟨_, congrArg _ (applyVerdict_deepen hk hs may), step⟩
  · have awake : ¬((s.carrier v.carrier).state = .warming ∧ CarrierState.on = .on) := by
      obtain ⟨-, hs⟩ | ⟨-, hs⟩ := hks <;> simp [hs]
    exact ⟨_, congrArg _ (applyVerdict_awake hks), moved .on v.cause awake _ rfl⟩
  · have handed := queuedWithEntry_handed { s with due := rest } v.carrier v.cause v.cls
    rw [record, hs] at handed
    refine ⟨State.queuedWithEntry { s with due := rest } v.carrier v.cause v.cls, ?_, ?_, fun d hd => ?_, rfl, handed, ?_, ?_⟩
    · exact congrArg _ ((applyVerdict_queued (s := { s with due := rest }) hk hs).trans (queueCarrier_eq _ _ _ _))
    · rw [queuedWithEntry_carrier, if_pos rfl, record]
    · rw [queuedWithEntry_carrier, if_neg (Ne.symm hd), record]
    · exact (queuedWithEntry_changes _ _ _ _).due
    · exact (dropped.seq (queuedWithEntry_changes _ _ _ _))
  · exact congrArg _ (applyVerdict_dropped hd)

end Sys2Proof.Machine
end

section
/-! PROOF. The verdicts of a boundary: the admission of drains in a sector (O34), and which verdicts the steps issue in which order
(O33). -/

namespace Sys2Proof.Machine

/-! ### Admission -/

section Admission

variable (p : WindowParams) (s : State) (a : Carrier) (limit : Nat)

/-- The carriers admitted among candidates keep their order; each gets the verdict of a drain. -/
theorem admitCandidates_sublist (proj : Nat) (l : List Carrier) :
    ((admitCandidates p s a limit proj l).map Verdict.carrier).Sublist l
    ∧ ∀ v ∈ admitCandidates p s a limit proj l, v.kind = .drain ∧ v.cause = .lowLoad ∧ v.cls = .routine := by
  induction l generalizing proj with
  | nil => simp [admitCandidates]
  | cons c l ih =>
    rw [admitCandidates]
    split
    · obtain ⟨sub, kinds⟩ := ih (proj + moved p s a c)
      exact ⟨sub.cons_cons c, List.forall_mem_cons.mpr ⟨⟨rfl, rfl, rfl⟩, kinds⟩⟩
    · obtain ⟨sub, kinds⟩ := ih proj
      exact ⟨sub.cons c, kinds⟩

/-- The moved loads of the carriers that get verdicts. -/
def movedSum (vs : List Verdict) : Nat := (vs.map fun v => moved p s a v.carrier).sum

/-- With all that are admitted the projection stays within the limit. -/
theorem admitCandidates_within (proj : Nat) (l : List Carrier) (h : admitCandidates p s a limit proj l ≠ []) :
    proj + movedSum p s a (admitCandidates p s a limit proj l) ≤ limit := by
  induction l generalizing proj with
  | nil => simp [admitCandidates] at h
  | cons c l ih =>
    rw [admitCandidates] at h ⊢
    split at h
    · next fits =>
      rw [if_pos fits, movedSum, List.map_cons, List.sum_cons, ← movedSum, ← Nat.add_assoc]
      by_cases none : admitCandidates p s a limit (proj + moved p s a c) l = []
      · simpa [none, movedSum] using fits
      · exact ih _ none
    · next fits => rw [if_neg fits]; exact ih _ h

/-- A candidate is admitted exactly where it fits beside those admitted before it. -/
theorem admitCandidates_iff (proj : Nat) (l : List Carrier) (hs : l.Pairwise (· < ·)) {c : Carrier} (hc : c ∈ l) :
    (∃ v ∈ admitCandidates p s a limit proj l, v.carrier = c) ↔
      proj + movedSum p s a ((admitCandidates p s a limit proj l).filter fun v => decide (v.carrier < c)) + moved p s a c ≤ limit := by
  induction l generalizing proj with
  | nil => simp at hc
  | cons d l ih =>
    obtain ⟨above, hl⟩ := List.pairwise_cons.mp hs
    have later : ∀ {proj : Nat} {v : Verdict}, v ∈ admitCandidates p s a limit proj l → d < v.carrier := fun hv =>
      above _ ((admitCandidates_sublist p s a limit _ l).1.subset (List.mem_map_of_mem hv))
    have noneBelow : ∀ proj, (admitCandidates p s a limit proj l).filter (fun v => decide (v.carrier < d)) = [] := fun proj =>
      List.filter_eq_nil_iff.mpr fun v hv => by simpa using (later hv).le
    rw [admitCandidates]
    obtain rfl | hc := List.mem_cons.mp hc
    · split
      · next fits => simpa [noneBelow, movedSum] using fits
      · next fits =>
        rw [noneBelow]
        refine iff_of_false ?_ (by simpa [movedSum] using fits)
        rintro ⟨v, hv, rfl⟩
        exact lt_irrefl _ (later hv)
    · have lower := above c hc
      split
      · rw [List.filter_cons_of_pos (by simpa using lower), movedSum, List.map_cons, List.sum_cons, ← movedSum, ← Nat.add_assoc,
          ← ih _ hl hc]
        simp [lower.ne]
      · exact ih _ hl hc

end Admission

section Sector

variable {p : WindowParams} {s : State} {vs : List Verdict} {k : Nat}

theorem mem_sectorCapacity {c : Carrier} :
    c ∈ sectorCapacity p s k ↔ evalCapacity p s c = true ∧ (p.entries.get c).sector = k := by
  simp [sectorCapacity, mem_carriers]

theorem sectorCapacity_ascend : (sectorCapacity p s k).Pairwise (· < ·) := carriers_ascend.filter _

theorem judged_eq_false {c : Carrier} : judged vs c = false ↔ ∀ v ∈ vs, v.carrier ≠ c := by
  simp [judged]

/-- The candidates of a sector that is not overloaded. -/
theorem mem_candidates (h : overloaded p s k = false) {c : Carrier} :
    c ∈ (sectorCapacity p s k).filter (candidate p s vs) ↔ DrainCandidate p s vs k c := by
  simp only [List.mem_filter, mem_sectorCapacity, candidate, Bool.and_eq_true, decide_eq_true_eq, Bool.not_eq_true', inState,
    beq_iff_eq, judged_eq_false, DrainCandidate]
  constructor
  · rintro ⟨⟨he, rfl⟩, ⟨⟨⟨⟨⟨⟨⟨-, on⟩, free⟩, -⟩, sleep⟩, keep⟩, minOn⟩, backoff⟩, load⟩
    exact ⟨he, rfl, on, free, sleep, keep, minOn, backoff, load⟩
  · rintro ⟨he, rfl, on, free, sleep, keep, minOn, backoff, load⟩
    exact ⟨⟨he, rfl⟩, ⟨⟨⟨⟨⟨⟨⟨he, on⟩, free⟩, h⟩, sleep⟩, keep⟩, minOn⟩, backoff⟩, load⟩

theorem drainSector_none (h : anchorInOn p s k = none ∨ overloaded p s k = true) : drainSector p s vs k = [] := by
  rw [drainSector]
  cases ha : anchorInOn p s k with
  | none => rfl
  | some a =>
    have loaded : overloaded p s k = true := h.resolve_left (by simp [ha])
    cases hl : (p.entries.get a).limits with
    | none => simp only [hl]
    | some l => simp only [hl, if_pos loaded]

/-- The admission in a sector with an anchor in ON that is not overloaded. -/
theorem drainSector_admits {a : Carrier} {l : AnchorLimits} (ha : anchorInOn p s k = some a)
    (hl : (p.entries.get a).limits = some l) (h : overloaded p s k = false) : drainSector p s vs k =
      admitCandidates p s a (16 * l.cAdm) (projection p s a k) ((sectorCapacity p s k).filter (candidate p s vs)) := by
  rw [drainSector, ha]
  simp only [hl, h]
  rfl

theorem projection_eq (a : Carrier) : projection p s a k = (s.figures a).load
    + ((carriers.filter (fun x => evalCapacity p s x && (p.entries.get x).sector == k && (s.carrier x).state == .draining)).map
        (fun x => (s.figures x).load * (p.entries.get x).rbMax / (p.entries.get a).rbMax)).sum := by
  rw [projection, sectorCapacity, List.filter_filter]
  congr 3
  refine List.filter_congr fun c _ => ?_
  rw [inState, Bool.and_comm]

end Sector

/-- Settles O34. -/
theorem admissionWithinLimit : Obligations.AdmissionWithinLimit := by
  rintro p s vs k
  refine ⟨drainSector_none, fun a l start ha hl h hstart => ?_⟩
  rw [← projection_eq] at hstart
  rw [drainSector_admits ha hl h, hstart]
  obtain ⟨sub, kinds⟩ := admitCandidates_sublist p s a (16 * l.cAdm) (projection p s a k)
    ((sectorCapacity p s k).filter (candidate p s vs))
  have ascend : ((sectorCapacity p s k).filter (candidate p s vs)).Pairwise (· < ·) := sectorCapacity_ascend.filter _
  refine ⟨fun v hv => ⟨(kinds v hv).1, (kinds v hv).2.1, (mem_candidates h).mp (sub.subset (List.mem_map_of_mem hv))⟩,
    List.pairwise_map.mp (ascend.sublist sub), admitCandidates_within p s a _ _ _, fun c hc => ?_⟩
  exact admitCandidates_iff p s a _ _ _ ascend ((mem_candidates h).mpr hc)

end Sys2Proof.Machine
end

section
/-! PROOF. Which verdicts a boundary issues, and in which order (O33): the verdicts of each step of the procedure by their
conditions, and their places in the list. -/

namespace Sys2Proof.Machine

/-- A verdict is of a kind, cause and class. -/
def Verdict.IsOf (v : Verdict) (kind : VerdictKind) (cause : Cause) (cls : WakeClass) : Prop :=
  v.kind = kind ∧ v.cause = cause ∧ v.cls = cls

theorem verdict_eq_iff {v : Verdict} {c : Carrier} {kind : VerdictKind} {cause : Cause} {cls : WakeClass} :
    v = { carrier := c, kind := kind, cause := cause, cls := cls } ↔ v.carrier = c ∧ v.IsOf kind cause cls := by
  obtain ⟨d, k, ca, cl⟩ := v
  simp [Verdict.IsOf]

/-- The verdicts of one kind made for carriers. -/
theorem mem_map_verdict {l : List Carrier} {v : Verdict} {kind : VerdictKind} {cause : Cause} {cls : WakeClass} :
    v ∈ l.map (fun c => ({ carrier := c, kind := kind, cause := cause, cls := cls } : Verdict)) ↔
      v.carrier ∈ l ∧ v.IsOf kind cause cls := by
  simp only [List.mem_map, eq_comm (b := v), verdict_eq_iff]
  exact ⟨fun ⟨c, hc, own, kinds⟩ => ⟨own ▸ hc, kinds⟩, fun ⟨hc, kinds⟩ => ⟨_, hc, rfl, kinds⟩⟩

/-! ### The night -/

theorem inNight_iff (start stop t : Nat) : inNight start stop t = true ↔
    (start ≤ t ∧ t < stop) ∨ (stop < start ∧ (start ≤ t ∨ t < stop)) := by
  rw [inNight]
  split
  · simp only [Bool.false_eq_true, false_iff]; omega
  · split
    · simp only [Bool.and_eq_true, decide_eq_true_eq]; omega
    · simp only [Bool.or_eq_true, decide_eq_true_eq]; omega

theorem nightPredicate_iff {s : State} {h : NightHold} (hv : s.nightValues = h) : s.nightPredicate = true ↔
    s.loader.applied.isSome = true ∧ s.timer.clockSet = true ∧ h.heartbeat = .alive
    ∧ ((h.nightStart ≤ s.timer.seconds ∧ s.timer.seconds < h.nightEnd)
      ∨ (h.nightEnd < h.nightStart ∧ (h.nightStart ≤ s.timer.seconds ∨ s.timer.seconds < h.nightEnd))) := by
  rw [State.nightPredicate, hv, Bool.and_eq_true, Bool.and_eq_true, Bool.and_eq_true, beq_iff_eq, inNight_iff, and_assoc, and_assoc]

/-! ### The steps -/

section Steps

variable {p : WindowParams} {s : State}

theorem evalCapacity_iff {c : Carrier} : evalCapacity p s c = true ↔ (p.entries.get c).present = true
    ∧ (s.carrier c).values.present = true ∧ (p.entries.get c).role = .capacity := by
  simp [evalCapacity, evaluated, and_assoc]

theorem anchorInOn_some {k : Nat} {a : Carrier} (h : anchorInOn p s k = some a) : (p.entries.get a).present = true
    ∧ (s.carrier a).values.present = true ∧ (p.entries.get a).role = .anchor ∧ (p.entries.get a).sector = k
    ∧ (s.carrier a).state = .on := by
  simpa [evaluated, and_assoc] using List.find?_some h

theorem overloaded_iff {k : Nat} : overloaded p s k = true ↔ ∃ a l, anchorInOn p s k = some a
    ∧ (p.entries.get a).limits = some l ∧ 16 * l.cOvl < (s.figures a).load := by
  rw [overloaded]
  cases ha : anchorInOn p s k with
  | none => simp
  | some a => cases hl : (p.entries.get a).limits <;> simp [hl]

/-- The first carrier of a sector found in a state is its lowest (R91). -/
theorem find_inState {k : Nat} {state : CarrierState} {c : Carrier} :
    (sectorCapacity p s k).find? (inState s state) = some c ↔ LowestInState p s k state c := by
  rw [find?_eq_some_iff_least (fun _ _ => lt_asymm) sectorCapacity_ascend]
  simp only [mem_sectorCapacity, inState, beq_iff_eq, LowestInState, not_lt, and_assoc]
  simp only [and_imp]

theorem find_inState_none {k : Nat} {state : CarrierState} : (sectorCapacity p s k).find? (inState s state) = none ↔
    ∀ d : Carrier, evalCapacity p s d = true → (p.entries.get d).sector = k → (s.carrier d).state ≠ state := by
  simp [List.find?_eq_none, mem_sectorCapacity, inState]

theorem LowestInState.holds {k : Nat} {state : CarrierState} {c : Carrier} (h : LowestInState p s k state c) :
    evalCapacity p s c = true ∧ (p.entries.get c).sector = k ∧ (s.carrier c).state = state := ⟨h.1, h.2.1, h.2.2.1⟩

theorem mem_overloadWake {k : Nat} {v : Verdict} : v ∈ overloadWake p s k ↔
    v.IsOf .wakeLight .anchorOverload .load ∧ LowestInState p s k .light v.carrier
    ∨ v.IsOf .wakeDeep .anchorOverload .load ∧ LowestInState p s k .deep v.carrier
      ∧ ∀ d : Carrier, evalCapacity p s d = true → (p.entries.get d).sector = k → (s.carrier d).state ≠ .light := by
  rw [overloadWake, ← find_inState, ← find_inState, ← find_inState_none]
  cases (sectorCapacity p s k).find? (inState s .light) with
  | some c =>
    simp only [List.mem_singleton, verdict_eq_iff, Option.some_inj, reduceCtorEq, and_false, or_false, eq_comm (a := c)]
    exact and_comm
  | none =>
    cases (sectorCapacity p s k).find? (inState s .deep) with
    | some c => simp [verdict_eq_iff, eq_comm (a := c), and_comm]
    | none => simp

/-- The verdicts of step 4 for carriers of a sector (R91). -/
def OverloadVerdict (p : WindowParams) (s : State) (k : Nat) (v : Verdict) : Prop :=
  overloaded p s k = true ∧ evalCapacity p s v.carrier = true ∧ (p.entries.get v.carrier).sector = k
    ∧ (v.IsOf .cancelDrain .anchorOverload .load ∧ (s.carrier v.carrier).state = .draining
      ∨ v.IsOf .wakeLight .anchorOverload .load ∧ LowestInState p s k .light v.carrier
      ∨ v.IsOf .wakeDeep .anchorOverload .load ∧ LowestInState p s k .deep v.carrier
        ∧ ∀ d : Carrier, evalCapacity p s d = true → (p.entries.get d).sector = k → (s.carrier d).state ≠ .light)

theorem mem_overloadSector {k : Nat} {v : Verdict} : v ∈ overloadSector p s k ↔ OverloadVerdict p s k v := by
  rw [overloadSector, OverloadVerdict]
  split
  · next loaded =>
    rw [List.mem_append, mem_map_verdict, mem_overloadWake, List.mem_filter, mem_sectorCapacity, inState, beq_iff_eq]
    constructor
    · rintro (⟨⟨⟨he, hk⟩, hs⟩, kind⟩ | ⟨kind, low⟩ | ⟨kind, low, clear⟩)
      · exact ⟨loaded, he, hk, .inl ⟨kind, hs⟩⟩
      · exact ⟨loaded, low.holds.1, low.holds.2.1, .inr (.inl ⟨kind, low⟩)⟩
      · exact ⟨loaded, low.holds.1, low.holds.2.1, .inr (.inr ⟨kind, low, clear⟩)⟩
    · rintro ⟨-, he, hk, ⟨kind, hs⟩ | ⟨kind, low⟩ | ⟨kind, low, clear⟩⟩
      · exact .inl ⟨⟨⟨he, hk⟩, hs⟩, kind⟩
      · exact .inr (.inl ⟨kind, low⟩)
      · exact .inr (.inr ⟨kind, low, clear⟩)
  · next calm => simp [calm]

theorem mem_overloadStep {v : Verdict} : v ∈ overloadStep p s ↔
    (p.entries.get v.carrier).sector < 6 ∧ OverloadVerdict p s (p.entries.get v.carrier).sector v := by
  simp only [overloadStep, List.mem_flatMap, mem_sectors, mem_overloadSector]
  constructor
  · rintro ⟨k, hk, due⟩
    obtain rfl : _ = k := due.2.2.1
    exact ⟨hk, due⟩
  · rintro ⟨hk, due⟩
    exact ⟨_, hk, due⟩

/-- A LIGHT carrier has a verdict of step 4 exactly where it is the one woken in an overloaded sector. -/
theorem judged_overloadStep {c : Carrier} (hs : (s.carrier c).state = .light) : judged (overloadStep p s) c = false ↔
    ¬((p.entries.get c).sector < 6 ∧ overloaded p s (p.entries.get c).sector = true
      ∧ LowestInState p s (p.entries.get c).sector .light c) := by
  rw [judged_eq_false]
  constructor
  · rintro free ⟨hk, loaded, low⟩
    refine free { carrier := c, kind := .wakeLight, cause := .anchorOverload, cls := .load } ?_ rfl
    exact mem_overloadStep.mpr ⟨hk, loaded, low.holds.1, rfl, .inr (.inl ⟨⟨rfl, rfl, rfl⟩, low⟩)⟩
  · rintro other v hv rfl
    obtain ⟨hk, loaded, -, -, ⟨-, h⟩ | ⟨-, low⟩ | ⟨-, low, -⟩⟩ := mem_overloadStep.mp hv
    · simp [hs] at h
    · exact other ⟨hk, loaded, low⟩
    · exact absurd (hs.symm.trans low.holds.2.2) (by decide)

theorem mem_wakeForLoadStep {v : Verdict} : v ∈ wakeForLoadStep p s (overloadStep p s) ↔
    v.IsOf .wakeLight .loadHigh .load ∧ evalCapacity p s v.carrier = true ∧ (s.carrier v.carrier).state = .light
      ∧ 16 * (p.entries.get v.carrier).tWake ≤ (s.figures v.carrier).load
      ∧ ¬((p.entries.get v.carrier).sector < 6 ∧ overloaded p s (p.entries.get v.carrier).sector = true
        ∧ LowestInState p s (p.entries.get v.carrier).sector .light v.carrier) := by
  rw [wakeForLoadStep, mem_map_verdict, List.mem_filter]
  simp only [mem_carriers, true_and, Bool.and_eq_true, inState, beq_iff_eq, Bool.not_eq_true', decide_eq_true_eq]
  constructor
  · rintro ⟨⟨⟨⟨he, hs⟩, free⟩, high⟩, kind⟩
    exact ⟨kind, he, hs, high, (judged_overloadStep hs).mp free⟩
  · rintro ⟨kind, he, hs, high, free⟩
    exact ⟨⟨⟨⟨he, hs⟩, (judged_overloadStep hs).mpr free⟩, high⟩, kind⟩

/-- In a sector that is not overloaded a LIGHT carrier has a verdict before step 6 exactly where it is woken for its load. -/
theorem judged_beforeDeepen {c : Carrier} (he : evalCapacity p s c = true) (hs : (s.carrier c).state = .light)
    (calm : overloaded p s (p.entries.get c).sector = false) :
    judged (overloadStep p s ++ wakeForLoadStep p s (overloadStep p s)) c = false ↔
      (s.figures c).load < 16 * (p.entries.get c).tWake := by
  have other : ¬((p.entries.get c).sector < 6 ∧ overloaded p s (p.entries.get c).sector = true
      ∧ LowestInState p s (p.entries.get c).sector .light c) := by simp [calm]
  rw [judged_eq_false]
  constructor
  · intro free
    by_contra high
    exact free { carrier := c, kind := .wakeLight, cause := .loadHigh, cls := .load }
      (List.mem_append_right _ (mem_wakeForLoadStep.mpr ⟨⟨rfl, rfl, rfl⟩, he, hs, not_lt.mp high, other⟩)) rfl
  · rintro low v hv rfl
    obtain hv | hv := List.mem_append.mp hv
    · exact (judged_eq_false.mp ((judged_overloadStep hs).mpr other)) v hv rfl
    · obtain ⟨-, -, -, high, -⟩ := mem_wakeForLoadStep.mp hv
      omega

/-- The conditions of a DEEPEN verdict, those of its step alone (R94). -/
def DeepenDue (p : WindowParams) (s : State) (c : Carrier) : Prop :=
  (s.carrier c).state = .light ∧ overloaded p s (p.entries.get c).sector = false
    ∧ (p.entries.get c).deepEnable = true ∧ (p.entries.get c).lightDwell ≤ (s.carrier c).lightCount
    ∧ (s.figures c).load ≤ 16 * (p.entries.get c).tDeep ∧ (s.figures c).load < 16 * (p.entries.get c).tWake
    ∧ s.keepAwake c = false ∧ ∃ a, anchorInOn p s (p.entries.get c).sector = some a

theorem mem_deepenStep {v : Verdict} :
    v ∈ deepenStep p s (overloadStep p s ++ wakeForLoadStep p s (overloadStep p s)) ↔
      v.IsOf .deepen .deepen .routine ∧ evalCapacity p s v.carrier = true ∧ DeepenDue p s v.carrier := by
  rw [deepenStep, mem_map_verdict, List.mem_filter]
  simp only [mem_carriers, true_and, deepens, Bool.and_eq_true, inState, beq_iff_eq, Bool.not_eq_true', decide_eq_true_eq,
    Option.isSome_iff_exists, DeepenDue]
  constructor
  · rintro ⟨⟨⟨⟨⟨⟨⟨⟨⟨he, hs⟩, free⟩, calm⟩, enable⟩, dwell⟩, low⟩, keep⟩, anchor⟩, kind⟩
    exact ⟨kind, he, hs, calm, enable, dwell, low, (judged_beforeDeepen he hs calm).mp free, keep, anchor⟩
  · rintro ⟨kind, he, hs, calm, enable, dwell, low, wake, keep, anchor⟩
    exact ⟨⟨⟨⟨⟨⟨⟨⟨⟨he, hs⟩, (judged_beforeDeepen he hs calm).mpr wake⟩, calm⟩, enable⟩, dwell⟩, low⟩, keep⟩, anchor⟩, kind⟩

/-- The verdicts before step 7 are for carriers that are not in ON. -/
theorem judged_beforeDrain {c : Carrier} (hs : (s.carrier c).state = .on) :
    judged ((overloadStep p s ++ wakeForLoadStep p s (overloadStep p s))
      ++ deepenStep p s (overloadStep p s ++ wakeForLoadStep p s (overloadStep p s))) c = false := by
  rw [judged_eq_false]
  rintro v hv rfl
  simp only [List.mem_append, mem_overloadStep, mem_wakeForLoadStep, mem_deepenStep] at hv
  obtain (⟨-, -, -, -, ⟨-, h⟩ | ⟨-, low⟩ | ⟨-, low, -⟩⟩ | ⟨-, -, h, -⟩) | ⟨-, -, h, -⟩ := hv
  · simp [hs] at h
  · exact absurd (hs.symm.trans low.holds.2.2) (by decide)
  · exact absurd (hs.symm.trans low.holds.2.2) (by decide)
  · simp [hs] at h
  · simp [hs] at h

/-- So the verdicts before step 7 exclude no candidate of it. -/
theorem drainSector_beforeDrain (k : Nat) :
    drainSector p s ((overloadStep p s ++ wakeForLoadStep p s (overloadStep p s))
      ++ deepenStep p s (overloadStep p s ++ wakeForLoadStep p s (overloadStep p s))) k = drainSector p s [] k := by
  have same : candidate p s ((overloadStep p s ++ wakeForLoadStep p s (overloadStep p s))
      ++ deepenStep p s (overloadStep p s ++ wakeForLoadStep p s (overloadStep p s))) = candidate p s [] := by
    funext c
    rw [candidate, candidate]
    by_cases hs : (s.carrier c).state = .on
    · rw [judged_beforeDrain hs, show judged [] c = false from rfl]
    · have awake : inState s .on c = false := by simpa [inState] using hs
      simp only [awake, Bool.and_false, Bool.false_and]
  rw [drainSector, drainSector, same]

theorem drainSector_verdict {vs : List Verdict} {k : Nat} {v : Verdict} (hv : v ∈ drainSector p s vs k) :
    v.IsOf .drain .lowLoad .routine ∧ DrainCandidate p s vs k v.carrier := by
  cases ha : anchorInOn p s k with
  | none => simp [drainSector_none (.inl ha)] at hv
  | some a =>
    by_cases loaded : overloaded p s k = true
    · simp [drainSector_none (.inr loaded)] at hv
    · have calm : overloaded p s k = false := by simpa using loaded
      cases hl : (p.entries.get a).limits with
      | none =>
        rw [drainSector, ha] at hv
        simp [hl] at hv
      | some l =>
        rw [drainSector_admits ha hl calm] at hv
        obtain ⟨sub, kinds⟩ := admitCandidates_sublist p s a (16 * l.cAdm) (projection p s a k)
          ((sectorCapacity p s k).filter (candidate p s vs))
        exact ⟨kinds v hv, (mem_candidates calm).mp (sub.subset (List.mem_map_of_mem hv))⟩

theorem drainSector_ascend {vs : List Verdict} {k : Nat} : (drainSector p s vs k).Pairwise fun v w => v.carrier < w.carrier := by
  rw [drainSector]
  split
  · exact .nil
  · split
    · exact .nil
    · split
      · exact .nil
      · exact List.pairwise_map.mp ((sectorCapacity_ascend.filter _).sublist (admitCandidates_sublist ..).1)

theorem mem_drainStep {v : Verdict} : v ∈ sectors.flatMap (drainSector p s []) ↔
    (p.entries.get v.carrier).sector < 6 ∧ v ∈ drainSector p s [] (p.entries.get v.carrier).sector := by
  simp only [List.mem_flatMap, mem_sectors]
  constructor
  · rintro ⟨k, hk, hv⟩
    obtain rfl : _ = k := (drainSector_verdict hv).2.2.1
    exact ⟨hk, hv⟩
  · rintro ⟨hk, hv⟩
    exact ⟨_, hk, hv⟩

end Steps

/-! ### The list of the night -/

section Night

variable {p : WindowParams} {s : State} {clean : Bool}

theorem verdictSteps_day (h : s.nightPredicate = false) : verdictSteps p s clean = nightEndStep p s := by
  rw [verdictSteps, if_neg (by simp [h])]

theorem verdictSteps_unclean (h : s.nightPredicate = true) :
    verdictSteps p s false = overloadStep p s ++ wakeForLoadStep p s (overloadStep p s) := by
  rw [verdictSteps, if_pos h]
  rfl

theorem verdictSteps_clean (h : s.nightPredicate = true) : verdictSteps p s true =
    (overloadStep p s ++ wakeForLoadStep p s (overloadStep p s))
      ++ deepenStep p s (overloadStep p s ++ wakeForLoadStep p s (overloadStep p s)) ++ sectors.flatMap (drainSector p s []) := by
  rw [verdictSteps, if_pos h]
  simp only [if_true, drainStep]
  rw [show drainSector p s ((overloadStep p s ++ wakeForLoadStep p s (overloadStep p s))
      ++ deepenStep p s (overloadStep p s ++ wakeForLoadStep p s (overloadStep p s))) = drainSector p s [] from
    funext drainSector_beforeDrain]

/-- The verdicts due are those of the four steps. -/
theorem verdictDue_iff {v : Verdict} : VerdictDue p s clean v ↔
    (v ∈ overloadStep p s ∨ v ∈ wakeForLoadStep p s (overloadStep p s))
    ∨ (clean = true ∧ v ∈ deepenStep p s (overloadStep p s ++ wakeForLoadStep p s (overloadStep p s)))
    ∨ clean = true ∧ v ∈ sectors.flatMap (drainSector p s []) := by
  rw [mem_overloadStep, mem_wakeForLoadStep, mem_deepenStep, mem_drainStep, VerdictDue]
  constructor
  · rintro ⟨he, due⟩
    split at due
    case h_1 hk hc hl => exact .inl (.inl ⟨due.1, due.2.1, he, rfl, .inl ⟨⟨hk, hc, hl⟩, due.2.2⟩⟩)
    case h_2 hk hc hl => exact .inl (.inl ⟨due.1, due.2.1, he, rfl, .inr (.inl ⟨⟨hk, hc, hl⟩, due.2.2⟩)⟩)
    case h_3 hk hc hl => exact .inl (.inl ⟨due.1, due.2.1, he, rfl, .inr (.inr ⟨⟨hk, hc, hl⟩, due.2.2⟩)⟩)
    case h_4 hk hc hl => exact .inl (.inr ⟨⟨hk, hc, hl⟩, he, due⟩)
    case h_5 hk hc hl => exact .inr (.inl ⟨due.1, ⟨hk, hc, hl⟩, he, due.2⟩)
    case h_6 => exact .inr (.inr due)
    case h_7 => exact due.elim
  · obtain ⟨c, kind, cause, cls⟩ := v
    rintro ((⟨hk, loaded, he, -, ⟨⟨rfl, rfl, rfl⟩, h⟩ | ⟨⟨rfl, rfl, rfl⟩, h⟩ | ⟨⟨rfl, rfl, rfl⟩, h⟩⟩ | ⟨⟨rfl, rfl, rfl⟩, he, h⟩) |
      ⟨hclean, ⟨rfl, rfl, rfl⟩, he, h⟩ | ⟨hclean, hk, h⟩)
    · exact ⟨he, hk, loaded, h⟩
    · exact ⟨he, hk, loaded, h⟩
    · exact ⟨he, hk, loaded, h⟩
    · exact ⟨he, h⟩
    · exact ⟨he, hclean, h⟩
    · obtain ⟨⟨rfl, rfl, rfl⟩, he, -⟩ := drainSector_verdict h
      exact ⟨he, hclean, hk, h⟩

theorem mem_verdictSteps (h : s.nightPredicate = true) {v : Verdict} : v ∈ verdictSteps p s clean ↔ VerdictDue p s clean v := by
  rw [verdictDue_iff]
  cases clean with
  | true => rw [verdictSteps_clean h]; simp [or_assoc]
  | false => rw [verdictSteps_unclean h]; simp

/-- The kind, cause and class of the verdict that a carrier may be due, by its state, and for a LIGHT carrier by the verdicts of
step 4 and its load. -/
def dueKind (p : WindowParams) (s : State) (c : Carrier) : VerdictKind × Cause × WakeClass :=
  match (s.carrier c).state with
  | .draining => (.cancelDrain, .anchorOverload, .load)
  | .on => (.drain, .lowLoad, .routine)
  | .deep => (.wakeDeep, .anchorOverload, .load)
  | .light | .absent | .queued | .warming | .faulted =>
    if judged (overloadStep p s) c = true then (.wakeLight, .anchorOverload, .load)
    else if 16 * (p.entries.get c).tWake ≤ (s.figures c).load then (.wakeLight, .loadHigh, .load)
    else (.deepen, .deepen, .routine)

theorem dueKind_light {c : Carrier} (h : (s.carrier c).state = .light) : dueKind p s c =
    if judged (overloadStep p s) c = true then (.wakeLight, .anchorOverload, .load)
    else if 16 * (p.entries.get c).tWake ≤ (s.figures c).load then (.wakeLight, .loadHigh, .load)
    else (.deepen, .deepen, .routine) := by
  simp [dueKind, h]

theorem VerdictDue.kind {v : Verdict} (h : VerdictDue p s clean v) : (v.kind, v.cause, v.cls) = dueKind p s v.carrier := by
  have same : ∀ {kind cause cls}, v.IsOf kind cause cls → (v.kind, v.cause, v.cls) = (kind, cause, cls) :=
    fun ⟨hk, hc, hl⟩ => by rw [hk, hc, hl]
  obtain (h4 | h5) | ⟨-, h6⟩ | ⟨-, h7⟩ := verdictDue_iff.mp h
  · obtain ⟨hk, loaded, he, -, ⟨kind, hs⟩ | ⟨kind, low⟩ | ⟨kind, low, -⟩⟩ := mem_overloadStep.mp h4
    · rw [same kind, dueKind, hs]
    · have woken : judged (overloadStep p s) v.carrier = true := by
        rw [← Bool.not_eq_false, judged_overloadStep low.holds.2.2]
        exact fun free => free ⟨hk, loaded, low⟩
      rw [same kind, dueKind_light low.holds.2.2, if_pos woken]
    · rw [same kind, dueKind, low.holds.2.2]
  · obtain ⟨kind, -, hs, high, free⟩ := mem_wakeForLoadStep.mp h5
    rw [same kind, dueKind_light hs, if_neg (by rw [(judged_overloadStep hs).mpr free]; simp), if_pos high]
  · obtain ⟨kind, -, hs, calm, -, -, -, low, -⟩ := mem_deepenStep.mp h6
    rw [same kind, dueKind_light hs, if_neg (by rw [(judged_overloadStep hs).mpr (by simp [calm])]; simp),
      if_neg (not_le.mpr low)]
  · obtain ⟨kind, -, -, hs, -⟩ := drainSector_verdict (mem_drainStep.mp h7).2
    rw [same kind, dueKind, hs]

/-- A carrier is due one verdict at most. -/
theorem VerdictDue.unique {v w : Verdict} (hv : VerdictDue p s clean v) (hw : VerdictDue p s clean w)
    (h : v.carrier = w.carrier) : v = w := by
  have kinds := hv.kind.trans (h ▸ hw.kind.symm)
  obtain ⟨c, k, ca, cl⟩ := v
  obtain ⟨d, k', ca', cl'⟩ := w
  obtain rfl : c = d := h
  obtain ⟨rfl, rfl, rfl⟩ : k = k' ∧ ca = ca' ∧ cl = cl' := by simpa using kinds
  rfl

/-! ### Places in the list -/

section Ranks

variable {v : Verdict}

theorem rank_cancel (h : v.IsOf .cancelDrain .anchorOverload .load) :
    rankOfVerdict p v = 100 * (p.entries.get v.carrier).sector + v.carrier.val := by
  obtain ⟨hk, hc, -⟩ := h
  rw [rankOfVerdict, hk, hc]

theorem rank_overloadWake {kind : VerdictKind} (h : v.IsOf kind .anchorOverload .load) (hk : kind ≠ .cancelDrain) :
    rankOfVerdict p v = 100 * (p.entries.get v.carrier).sector + 50 := by
  obtain ⟨rfl, hc, -⟩ := h
  rw [rankOfVerdict, hc]
  cases hv : v.kind <;> simp_all

theorem rank_wakeForLoad (h : v.IsOf .wakeLight .loadHigh .load) : rankOfVerdict p v = 1000 + v.carrier.val := by
  obtain ⟨-, hc, -⟩ := h
  rw [rankOfVerdict, hc]

theorem rank_deepen (h : v.IsOf .deepen .deepen .routine) : rankOfVerdict p v = 2000 + v.carrier.val := by
  obtain ⟨-, hc, -⟩ := h
  rw [rankOfVerdict, hc]

theorem rank_drain (h : v.IsOf .drain .lowLoad .routine) :
    rankOfVerdict p v = 3000 + 100 * (p.entries.get v.carrier).sector + v.carrier.val := by
  obtain ⟨-, hc, -⟩ := h
  rw [rankOfVerdict, hc]

/-- The verdicts of step 4 in a sector stand within the hundred of their sector. -/
theorem rank_overloadSector {k : Nat} (h : v ∈ overloadSector p s k) :
    100 * k ≤ rankOfVerdict p v ∧ rankOfVerdict p v ≤ 100 * k + 50 := by
  have bound := v.carrier.isLt
  obtain ⟨-, -, rfl, ⟨kind, -⟩ | ⟨kind, -⟩ | ⟨kind, -⟩⟩ := mem_overloadSector.mp h
  · rw [rank_cancel kind]; omega
  · rw [rank_overloadWake kind (by decide)]; omega
  · rw [rank_overloadWake kind (by decide)]; omega

end Ranks

theorem overloadSector_ranked (k : Nat) :
    (overloadSector p s k).Pairwise fun v w => rankOfVerdict p v < rankOfVerdict p w := by
  have single : (overloadWake p s k).Pairwise fun v w => rankOfVerdict p v < rankOfVerdict p w := by
    rw [overloadWake]
    split
    · exact List.pairwise_singleton _ _
    · split
      · exact List.pairwise_singleton _ _
      · exact .nil
  rw [overloadSector]
  split
  · rw [List.pairwise_append, List.pairwise_map]
    refine ⟨(sectorCapacity_ascend.filter _).imp_of_mem fun {c d} hc hd hcd => ?_, single, fun v hv w hw => ?_⟩
    · have inSector : ∀ {e}, e ∈ (sectorCapacity p s k).filter (inState s .draining) → (p.entries.get e).sector = k := fun he =>
        (mem_sectorCapacity.mp (List.mem_filter.mp he).1).2
      rw [rank_cancel ⟨rfl, rfl, rfl⟩, rank_cancel ⟨rfl, rfl, rfl⟩]
      simp only [inSector hc, inSector hd]
      exact Nat.add_lt_add_left hcd _
    · obtain ⟨hm, kind⟩ := mem_map_verdict.mp hv
      have sector := (mem_sectorCapacity.mp (List.mem_filter.mp hm).1).2
      have bound := v.carrier.isLt
      have place : rankOfVerdict p w = 100 * k + 50 := by
        obtain ⟨wk, low⟩ | ⟨wk, low, -⟩ := mem_overloadWake.mp hw
        · rw [rank_overloadWake wk (by decide), low.holds.2.1]
        · rw [rank_overloadWake wk (by decide), low.holds.2.1]
      rw [rank_cancel kind, sector, place]
      omega
  · exact .nil

theorem overloadStep_ranked : (overloadStep p s).Pairwise fun v w => rankOfVerdict p v < rankOfVerdict p w := by
  rw [overloadStep, List.pairwise_flatMap]
  refine ⟨fun k _ => overloadSector_ranked k, sectors_ascend.imp fun {k l} hkl v hv w hw => ?_⟩
  have first := rank_overloadSector hv
  have second := rank_overloadSector hw
  simp only [id] at hkl
  omega

theorem drains_ranked : (sectors.flatMap (drainSector p s [])).Pairwise fun v w => rankOfVerdict p v < rankOfVerdict p w := by
  have place : ∀ {k v}, v ∈ drainSector p s [] k → rankOfVerdict p v = 3000 + 100 * k + v.carrier.val := fun hv => by
    obtain ⟨kind, -, rfl, -⟩ := drainSector_verdict hv
    exact rank_drain kind
  rw [List.pairwise_flatMap]
  refine ⟨fun k _ => drainSector_ascend.imp_of_mem fun {v w} hv hw hvw => ?_, sectors_ascend.imp fun {k l} hkl v hv w hw => ?_⟩
  · rw [place hv, place hw]
    exact Nat.add_lt_add_left hvw _
  · have bound := v.carrier.isLt
    rw [place hv, place hw]
    simp only [id] at hkl
    omega

theorem overloadStep_rank {v : Verdict} (h : v ∈ overloadStep p s) : rankOfVerdict p v < 1000 := by
  obtain ⟨k, hk, hv⟩ := List.mem_flatMap.mp h
  have := rank_overloadSector hv
  have := mem_sectors.mp hk
  omega

theorem wakeForLoadStep_rank {v : Verdict} (h : v ∈ wakeForLoadStep p s (overloadStep p s)) :
    rankOfVerdict p v = 1000 + v.carrier.val := rank_wakeForLoad (mem_wakeForLoadStep.mp h).1

theorem beforeDeepen_ranked : (overloadStep p s ++ wakeForLoadStep p s (overloadStep p s)).Pairwise fun v w =>
    rankOfVerdict p v < rankOfVerdict p w := by
  rw [List.pairwise_append]
  refine ⟨overloadStep_ranked, ?_, fun v hv w hw => ?_⟩
  · rw [wakeForLoadStep, List.pairwise_map]
    refine (carriers_ascend.filter _).imp fun {c d} hcd => ?_
    rw [rank_wakeForLoad ⟨rfl, rfl, rfl⟩, rank_wakeForLoad ⟨rfl, rfl, rfl⟩]
    exact Nat.add_lt_add_left hcd _
  · have := overloadStep_rank hv
    rw [wakeForLoadStep_rank hw]
    omega

theorem beforeDeepen_rank {v : Verdict} (h : v ∈ overloadStep p s ++ wakeForLoadStep p s (overloadStep p s)) :
    rankOfVerdict p v < 2000 := by
  obtain h | h := List.mem_append.mp h
  · have := overloadStep_rank h
    omega
  · rw [wakeForLoadStep_rank h]
    omega

theorem beforeDrain_ranked : ((overloadStep p s ++ wakeForLoadStep p s (overloadStep p s))
    ++ deepenStep p s (overloadStep p s ++ wakeForLoadStep p s (overloadStep p s))).Pairwise fun v w =>
      rankOfVerdict p v < rankOfVerdict p w := by
  rw [List.pairwise_append]
  refine ⟨beforeDeepen_ranked, ?_, fun v hv w hw => ?_⟩
  · rw [deepenStep, List.pairwise_map]
    refine (carriers_ascend.filter _).imp fun {c d} hcd => ?_
    rw [rank_deepen ⟨rfl, rfl, rfl⟩, rank_deepen ⟨rfl, rfl, rfl⟩]
    exact Nat.add_lt_add_left hcd _
  · have := beforeDeepen_rank hv
    rw [rank_deepen (mem_deepenStep.mp hw).1]
    omega

/-- The verdicts of the night stand in the order of their places. -/
theorem verdictSteps_ranked (h : s.nightPredicate = true) :
    (verdictSteps p s clean).Pairwise fun v w => rankOfVerdict p v < rankOfVerdict p w := by
  cases clean with
  | false => rw [verdictSteps_unclean h]; exact beforeDeepen_ranked
  | true =>
    rw [verdictSteps_clean h, List.pairwise_append]
    refine ⟨beforeDrain_ranked, drains_ranked, fun v hv w hw => ?_⟩
    have bound := v.carrier.isLt
    have place : rankOfVerdict p v < 3000 := by
      obtain hv | hv := List.mem_append.mp hv
      · have := beforeDeepen_rank hv
        omega
      · rw [rank_deepen (mem_deepenStep.mp hv).1]
        omega
    rw [rank_drain (drainSector_verdict (mem_drainStep.mp hw).2).1]
    omega

end Night

/-! ### The end of the night -/

section Day

variable {p : WindowParams} {s : State}

theorem nightEndVerdict_sleeping {c : Carrier} (h : (s.carrier c).state.sleeping = true) : ∃ v, nightEndVerdict s c = [v]
    ∧ v.carrier = c ∧ v.cause = .nightEnd ∧ v.cls = .routine
    ∧ ((s.carrier c).state = .draining → v.kind = .cancelDrain) ∧ ((s.carrier c).state = .light → v.kind = .wakeLight)
    ∧ ((s.carrier c).state = .deep → v.kind = .wakeDeep) := by
  rw [nightEndVerdict]
  cases hs : (s.carrier c).state <;> simp_all [CarrierState.sleeping]

theorem nightEndVerdict_awake {c : Carrier} (h : (s.carrier c).state.sleeping = false) : nightEndVerdict s c = [] := by
  rw [nightEndVerdict]
  cases hs : (s.carrier c).state <;> simp_all [CarrierState.sleeping]

theorem nightEndStep_carriers : (nightEndStep p s).map Verdict.carrier =
    carriers.filter fun c => evalCapacity p s c && (s.carrier c).state.sleeping := by
  have each : ∀ l : List Carrier, (l.flatMap (nightEndVerdict s)).map Verdict.carrier
      = l.filter fun c => (s.carrier c).state.sleeping := fun l => by
    induction l with
    | nil => rfl
    | cons c l ih =>
      rw [List.flatMap_cons, List.map_append, ih]
      cases hs : (s.carrier c).state.sleeping with
      | true =>
        obtain ⟨v, e, own, -⟩ := nightEndVerdict_sleeping hs
        simp [e, own, hs]
      | false => simp [nightEndVerdict_awake hs, hs]
  rw [nightEndStep, each, List.filter_filter]
  exact List.filter_congr fun c _ => Bool.and_comm _ _

theorem mem_nightEndStep {v : Verdict} (h : v ∈ nightEndStep p s) : evalCapacity p s v.carrier = true
    ∧ v.cause = .nightEnd ∧ v.cls = .routine
    ∧ ((s.carrier v.carrier).state = .draining → v.kind = .cancelDrain)
    ∧ ((s.carrier v.carrier).state = .light → v.kind = .wakeLight)
    ∧ ((s.carrier v.carrier).state = .deep → v.kind = .wakeDeep) := by
  obtain ⟨c, hc, hv⟩ := List.mem_flatMap.mp h
  have he := (List.mem_filter.mp hc).2
  cases hs : (s.carrier c).state.sleeping with
  | true =>
    obtain ⟨w, e, own, facts⟩ := nightEndVerdict_sleeping hs
    obtain rfl : v = w := by simpa [e] using hv
    rw [own]
    exact ⟨he, facts⟩
  | false => simp [nightEndVerdict_awake hs] at hv

end Day

/-- Settles O33. -/
theorem verdictListShape : Obligations.VerdictListShape := by
  intro s p clean
  refine ⟨fun c => evalCapacity_iff, fun k a h => anchorInOn_some h, fun k => overloaded_iff, fun h => ?_, fun h hh => ?_, ?_, ?_,
    ?_, fun day => ?_, fun night => ⟨fun v => (mem_verdictSteps night).mp, fun v => (mem_verdictSteps night).mpr,
      verdictSteps_ranked night⟩⟩
  · exact nightPredicate_iff (s := s) (by rw [State.nightValues, h])
  · exact nightPredicate_iff (by rw [State.nightValues, hh])
  · intro v hv
    cases hn : s.nightPredicate with
    | true => exact ((mem_verdictSteps hn).mp hv).1
    | false => rw [verdictSteps_day hn] at hv; exact (mem_nightEndStep hv).1
  · cases hn : s.nightPredicate with
    | true =>
      refine List.pairwise_map.mpr ((verdictSteps_ranked hn).imp_of_mem fun {v w} hv hw hlt own => ?_)
      obtain rfl := ((mem_verdictSteps hn).mp hv).unique ((mem_verdictSteps hn).mp hw) own
      exact lt_irrefl _ hlt
    | false =>
      rw [verdictSteps_day hn, nightEndStep_carriers]
      exact carriers_nodup.filter _
  · intro h v hv
    exact verdictSteps_kind h hv
  · rw [verdictSteps_day day]
    exact ⟨nightEndStep_carriers, fun v hv => (mem_nightEndStep hv).2⟩

end Sys2Proof.Machine
end

section
/-! PROOF. The window boundary at the Load Evaluator (O32): what is measured and latched at each carrier, and the list handed on. -/

namespace Sys2Proof.Machine

section Measure

variable (p : WindowParams) (s : State)

/-- The figures of a carrier after the measure step (R82, R84). -/
def measuredFigures (c : Carrier) (f : Figures) : Figures :=
  if evaluated p s c = true then
    (if (s.carrier c).state.serving then f.measureStep p.w p.k (p.entries.get c).rbMax else f).latchStep
  else f

theorem measureCarrier_figures {t : State} (h : ∀ c, t.carrier c = s.carrier c) (c d : Carrier) :
    (measureCarrier p t c).figures d = if c = d then measuredFigures p s c (t.figures c) else t.figures d := by
  have same : evaluated p t c = evaluated p s c := by rw [evaluated, evaluated, h]
  rw [measureCarrier, measuredFigures, same, h]
  split
  · rw [figures_setFigures]
  · split
    · next own => rw [own]
    · rfl

theorem measureAll_figures (c : Carrier) : (measureAll p s).figures c = measuredFigures p s c (s.figures c) := by
  have kept : ∀ (t : State) (d : Carrier), (∀ e, t.carrier e = s.carrier e) → ∀ e, (measureCarrier p t d).carrier e = s.carrier e :=
    fun t d h e => by
      rw [measureCarrier]
      split
      · exact h e
      · exact h e
  rw [measureAll, foldl_each (view := State.figures) (Ok := fun t => ∀ c, t.carrier c = s.carrier c) kept
    (fun t c d h => measureCarrier_figures p s h c d) carriers_nodup (fun _ => rfl), if_pos (mem_carriers c)]

/-- The measure step reads neither the Report Unit nor the events outstanding. -/
theorem measureAll_apart (r : ReportUnit) (due : List Due) :
    measureAll p { s with report := r, due := due } = { measureAll p s with report := r, due := due } := by
  have each : ∀ (t : State) (c : Carrier),
      measureCarrier p { t with report := r, due := due } c = { measureCarrier p t c with report := r, due := due } := fun t c => by
    rw [measureCarrier, measureCarrier, show evaluated p { t with report := r, due := due } c = evaluated p t c from rfl]
    split <;> rfl
  have fold : ∀ (l : List Carrier) (t : State), l.foldl (measureCarrier p) { t with report := r, due := due }
      = { l.foldl (measureCarrier p) t with report := r, due := due } := fun l => by
    induction l with
    | nil => exact fun _ => rfl
    | cons c l ih => exact fun t => by rw [List.foldl_cons, each, ih, List.foldl_cons]
  exact fold carriers s

theorem admitCandidates_apart (r : ReportUnit) (due : List Due) (a : Carrier) (limit proj : Nat) (l : List Carrier) :
    admitCandidates p { s with report := r, due := due } a limit proj l = admitCandidates p s a limit proj l := by
  have same : ∀ c, moved p { s with report := r, due := due } a c = moved p s a c := fun _ => rfl
  induction l generalizing proj with
  | nil => rfl
  | cons c l ih => rw [admitCandidates, admitCandidates, same, ih, ih]

theorem drainSector_apart (r : ReportUnit) (due : List Due) :
    drainSector p { s with report := r, due := due } = drainSector p s := by
  funext vs k
  rw [drainSector, drainSector]
  simp only [admitCandidates_apart]
  rfl

/-- The verdicts depend on neither the Report Unit nor the events outstanding. -/
theorem verdictSteps_apart (clean : Bool) (r : ReportUnit) (due : List Due) :
    verdictSteps p { s with report := r, due := due } clean = verdictSteps p s clean := by
  simp only [verdictSteps, drainStep, drainSector_apart]
  rfl

theorem measuredFigures_of_evaluated {c : Carrier} (h : evaluated p s c = true) : measuredFigures p s c (s.figures c) =
    { windowSum := 0, measured := 0, lightSlots := 0, offSlots := 0
      latchedLight := (s.figures c).lightSlots, latchedOff := (s.figures c).offSlots
      lastU := if (s.carrier c).state.serving = true ∧ (p.w + 1) / 2 ≤ (s.figures c).measured
        then 1000 * (s.figures c).windowSum / ((s.figures c).measured * (p.entries.get c).rbMax)
        else (s.figures c).lastU
      load := if (s.carrier c).state.serving = true ∧ (p.w + 1) / 2 ≤ (s.figures c).measured
        then filterLoad (s.figures c).load
          (1000 * (s.figures c).windowSum / ((s.figures c).measured * (p.entries.get c).rbMax)) p.k
        else (s.figures c).load } := by
  rw [measuredFigures, if_pos h, Figures.measureStep, enoughMeasured]
  by_cases serves : (s.carrier c).state.serving = true
  · by_cases enough : (p.w + 1) / 2 ≤ (s.figures c).measured
    · simp only [serves, enough, decide_true, if_true, and_self]
      rfl
    · simp only [serves, enough, decide_false, if_true, if_false, and_false, Bool.false_eq_true]
      rfl
  · simp only [serves]
    rfl

end Measure

/-- The Report Unit's part of a boundary before the procedure. -/
theorem reportLatchedFault_onlyReport (s : State) (w : Word32) :
    s.reportLatchedFault w = { s with report := (s.reportLatchedFault w).report } := by
  rw [State.reportLatchedFault.eq_def]
  split
  · rfl
  · dsimp only
    split <;> rfl

/-- The procedure of a boundary where there are window parameters. -/
theorem runProcedure_eq {s : State} {p : WindowParams} (hp : s.evaluator.params = some p) (w : Word32) (clean : Bool) :
    s.runProcedure w clean = State.addDue { measureAll p s with
      evaluator := { (measureAll p s).evaluator with
        lastEvaluated := w, params := some ((measureAll p s).evaluator.pendingParams.getD p), pendingParams := none }
      timer := { (measureAll p s).timer with nightHold := none } } (.verdicts true (verdictSteps p (measureAll p s) clean)) := by
  rw [State.runProcedure, hp]
  dsimp only
  cases (measureAll p s).evaluator.pendingParams <;> rfl

theorem measureAll_evaluator (p : WindowParams) (s : State) : (measureAll p s).evaluator.pendingParams = s.evaluator.pendingParams :=
  foldl_keeps (P := fun t => t.evaluator.pendingParams = s.evaluator.pendingParams) (fun t c h => by
    rw [measureCarrier]
    split
    · exact h
    · exact h) carriers rfl

theorem boundaryInstalls_changes (s : State) (r : ReportUnit) (due : List Due) (e : LoadEvaluator) (t : SlotTimer) (d : Due) :
    OnlyChanges s (State.addDue { s with report := r, due := due, evaluator := e, timer := t } d)
      [.evaluator, .timer, .report, .due] := by
  intro q hq; cases q <;> simp_all [SamePart, State.addDue]

/-- Settles O32. -/
theorem boundaryMeasures : Obligations.BoundaryMeasures := by
  intro s p window clean locked rest hq hp h
  let r := (State.reportLatchedFault { s with due := rest } window).report
  let m := measureAll p s
  let v := State.addDue { m with
    report := r, due := rest
    evaluator := { m.evaluator with
      lastEvaluated := window, params := some (m.evaluator.pendingParams.getD p), pendingParams := none }
    timer := { m.timer with nightHold := none } } (.verdicts true (verdictSteps p m clean))
  have run : (State.reportLatchedFault { s with due := rest } window).runProcedure window clean = v := by
    have reported : State.reportLatchedFault { s with due := rest } window = { s with report := r, due := rest } :=
      reportLatchedFault_onlyReport _ _
    have params : State.evaluator { s with report := r, due := rest } = s.evaluator := rfl
    rw [reported, runProcedure_eq (params ▸ hp), measureAll_apart p s r rest, verdictSteps_apart]
  have taken : exec .windowBoundary s = .next (v.rewriteStatus window) := by
    rw [exec, execWindowBoundary, settleAtOnce_quiet hq, takeNamed_found h, State.takeDue, State.takeBoundary, run]
  have status := rewriteStatus_changes v window
  have measured := measureAll_changes s p
  have figures : ∀ c, (v.rewriteStatus window).figures c = m.figures c := fun c => status.figures c
  have evaluator : (v.rewriteStatus window).evaluator = v.evaluator := status.evaluator
  refine ⟨v.rewriteStatus window, taken, fun c hc => ?_, fun c hc => ?_, ?_, ?_, ?_, ?_, ?_, fun c => (figures c).symm, measured, ?_⟩
  · rw [figures, measureAll_figures, measuredFigures_of_evaluated p s hc]
  · rw [figures, measureAll_figures, measuredFigures, if_neg (by simp [hc])]
  · rw [evaluator]; rfl
  · rw [evaluator]; rfl
  · rw [evaluator]
    show some (m.evaluator.pendingParams.getD p) = _
    rw [measureAll_evaluator]
  · rw [status.timer]
    show { m.timer with nightHold := none } = _
    rw [measured.timer]
  · exact status.due
  · exact ((measured.mono (by decide)).trans (boundaryInstalls_changes m _ _ _ _ _)).seq status

end Sys2Proof.Machine
end

section
/-! PROOF. A plain tick (O15 to O18): what the Slot Timer makes of a tick before it hands it on, and what the takings of the blocks
leave and bring about. -/

namespace Sys2Proof.Machine

/-! ### One carrier -/

theorem tick_ticked (r : CarrierRecord) (slot : Option SlotUse) : RecordTicked r slot (r.tick slot) := by
  rw [RecordTicked.eq_def, CarrierRecord.tick.eq_def]
  cases r.state with
  | draining =>
    cases slot with
    | none => rfl
    | some u =>
      dsimp only [Option.elim]
      rw [ite_not]
      rfl
  | light =>
    cases slot with
    | none => rfl
    | some u =>
      dsimp only [Option.elim]
      simp only [Nat.pos_iff_ne_zero]
      rfl
  | on | deep | queued | warming | absent | faulted => rfl

theorem takeSlot_measured (f : Figures) (state : CarrierState) (rb : Nat) : SlotMeasured f state rb (f.takeSlot state rb) := by
  cases state <;> rfl

section CarrierDue

variable {g : Globals} {a c : Carrier} {r r' : CarrierRecord} {slot : Option SlotUse}

theorem carrierDue_draining (h : r.state = .draining) : carrierDue g a r r' slot = drainDue g a r' slot := by
  rw [carrierDue, h]

theorem carrierDue_light (h : r.state = .light) : carrierDue g a r r' slot =
    if (slot.isSome && decide (g.beaconDeadline ≤ r'.beaconCount)) = true then [.beaconStarved a] else [] := by
  rw [carrierDue, h]

theorem carrierDue_queued (h : r.state = .queued) : carrierDue g a r r' slot = noticeDue a r r' := by
  rw [carrierDue, h]

theorem carrierDue_warming (h : r.state = .warming) : carrierDue g a r r' slot =
    if r'.values.warmupTimeout ≤ r'.warmupElapsed then [.warmupExpiry a] else [] := by
  rw [carrierDue, h]

theorem carrierDue_other (h : r.state ≠ .draining ∧ r.state ≠ .light ∧ r.state ≠ .queued ∧ r.state ≠ .warming) :
    carrierDue g a r r' slot = [] := by
  obtain ⟨h1, h2, h3, h4⟩ := h
  rw [carrierDue]
  cases hs : r.state <;> simp_all

/-- What a tick brings about at a carrier is one event of its state, or none. -/
theorem mem_carrierDue {d : Due} : d ∈ carrierDue g a r r' slot ↔
    (r.state = .draining ∧ ((∃ u, slot = some u ∧ g.drainConfirm ≤ r'.emptyRun ∧ d = .drainConfirmed a u.beacon)
        ∨ (slot = none ∨ r'.emptyRun < g.drainConfirm) ∧ g.drainLimit ≤ r'.drainElapsed ∧ d = .drainDeadline a))
    ∨ (r.state = .light ∧ slot ≠ none ∧ g.beaconDeadline ≤ r'.beaconCount ∧ d = .beaconStarved a)
    ∨ (r.state = .queued ∧ (∃ b n, r.sleepCount = some b ∧ r'.sleepCount = some n ∧ b < r.values.minSleep
        ∧ r.values.minSleep ≤ n) ∧ d = .readyNotice a)
    ∨ (r.state = .warming ∧ r'.values.warmupTimeout ≤ r'.warmupElapsed ∧ d = .warmupExpiry a) := by
  cases hs : r.state with
  | draining =>
    rw [carrierDue_draining hs, drainDue.eq_def]
    cases slot with
    | none =>
      dsimp only
      split <;> simp_all
    | some u =>
      dsimp only
      by_cases confirmed : g.drainConfirm ≤ r'.emptyRun
      · simp [confirmed]
      · rw [if_neg confirmed]
        split <;> simp_all
  | light =>
    rw [carrierDue_light hs]
    split <;> simp_all [Option.isSome_iff_ne_none]
  | queued =>
    rw [carrierDue_queued hs, noticeDue]
    cases hb : r.sleepCount with
    | none => simp
    | some b =>
      cases hn : r'.sleepCount with
      | none => simp
      | some n =>
        dsimp only
        split <;> simp_all
  | warming =>
    rw [carrierDue_warming hs]
    split <;> simp_all
  | absent => simp [carrierDue_other, hs]
  | on => simp [carrierDue_other, hs]
  | deep => simp [carrierDue_other, hs]
  | faulted => simp [carrierDue_other, hs]

end CarrierDue

/-- A ready notice comes at the tick that brings the sleep counter to its minSleep. -/
theorem notice_iff (r : CarrierRecord) (h : r.state = .queued) (slot : Option SlotUse) :
    (∃ b n, r.sleepCount = some b ∧ (r.tick slot).sleepCount = some n ∧ b < r.values.minSleep ∧ r.values.minSleep ≤ n) ↔
      ∃ n, r.sleepCount = some n ∧ n < 65535 ∧ r.values.minSleep = n + 1 := by
  have counted : (r.tick slot).sleepCount = r.sleepCount.map (countUp 65535) := by
    rw [CarrierRecord.tick.eq_def, h]
    rfl
  rw [counted]
  constructor
  · rintro ⟨b, n, hb, hn, below, reached⟩
    obtain rfl : countUp 65535 b = n := by simpa [hb] using hn
    rw [countUp] at reached
    split at reached
    · next room => exact ⟨b, hb, room, by omega⟩
    · omega
  · rintro ⟨n, hn, room, e⟩
    exact ⟨n, n + 1, hn, by rw [hn, Option.map_some, countUp, if_pos room], by omega, by omega⟩

theorem tick_warmupElapsed (r : CarrierRecord) (h : r.state = .warming) (slot : Option SlotUse) :
    (r.tick slot).warmupElapsed = r.warmupElapsed + 1 := by
  rw [CarrierRecord.tick.eq_def, h]

/-! ### A tick handed on -/

/-- What the Slot Timer leaves of a state at a tick before it hands it on: its own state, slot, loss timer, generator and clean flag
may change, held lists be flushed, a record be handed and events be outstanding. -/
structure TickReady (s x : State) : Prop where
  others : OnlyChanges s x [.timer, .monitor, .report, .due]
  ticks : x.timer.windowTicks = s.timer.windowTicks
  number : x.timer.windowNumber = s.timer.windowNumber
  seconds : x.timer.seconds = s.timer.seconds
  clockSet : x.timer.clockSet = s.timer.clockSet
  subSecond : x.timer.subSecond = s.timer.subSecond
  nightHold : x.timer.nightHold = s.timer.nightHold

namespace TickReady

variable {s x : State} (h : TickReady s x)
include h

theorem globals : x.globals = s.globals := globals_congr h.others.loader

theorem slotsPerSecond : x.slotsPerSecond = s.slotsPerSecond := by
  rw [State.slotsPerSecond.eq_def, h.others.loader, ← State.slotsPerSecond.eq_def]

theorem closesWindow : x.closesWindow = s.closesWindow := by
  rw [State.closesWindow, State.closesWindow, h.others.loader, h.globals, h.ticks]

theorem looks : x.looks = s.looks := by
  rw [State.looks, State.looks, h.others.loader, h.closesWindow]

theorem plain {o : TickOrder} (hp : PlainTick s o) : PlainTick x o := by
  rw [PlainTick, h.others.loader, h.closesWindow, h.globals]
  exact hp

end TickReady

/-- The slot a carrier retires at a tick, if any (R73). -/
def State.retires (x : State) (b : Bool) (c : Carrier) : Option SlotUse :=
  if b = true ∧ (x.carrier c).values.present = true then some (retiredSlot (x.held c) x.timer.slot) else none

section Handed

variable {s x : State} {b : Bool} {o : TickOrder}

/-- The events outstanding after a plain tick. -/
theorem mem_handTick_due (kept : ∀ d ∈ x.due, d.ofTick = false) (hp : PlainTick x o) {d : Due} :
    d ∈ (x.handTick b o).due ↔
      d ∈ x.due ∨ ((x.timer.clockSet = true ∧ x.slotsPerSecond ≤ x.timer.subSecond + 1) ∧ d = .clockSecond)
      ∨ ((∃ n, x.loader.heartbeatTimer = some n ∧ x.globals.heartbeatCode * 4096 ≤ n + 1) ∧ d = .heartbeatLapse)
      ∨ (∃ c, d ∈ carrierDue x.globals c (x.carrier c) ((x.carrier c).tick (x.retires b c)) (x.retires b c))
      ∨ (x.arbiter.spacing = 1 ∧ d = .spacingExpiry)
      ∨ (x.closesWindow = true ∧ d = .boundary x.timer.windowNumber (x.timer.clean && b) b)
      ∨ (x.looks = true ∧ d = .generation) := by
  obtain ⟨-, -, -, carriersTicked, -⟩ := plainTakings_blocks x b
  have fresh : x.due.contains .heartbeatLapse = false := by
    rw [← Bool.not_eq_true, List.contains_iff_mem]
    exact fun hm => Bool.noConfusion (kept _ hm)
  rw [handTick_plain b o fresh hp, plainTakings_due, State.boundaryDue]
  simp only [List.mem_append, List.mem_ite_nil_right, List.mem_singleton, List.mem_flatMap, mem_carriers, true_and, carriersTicked,
    or_assoc, State.retires]

/-- What the blocks hold after a plain tick. -/
theorem handTick_blocks (kept : ∀ d ∈ x.due, d.ofTick = false) (hp : PlainTick x o) :
    (∀ c, (x.handTick b o).carrier c = (x.carrier c).tick (x.retires b c))
    ∧ (∀ c, (x.handTick b o).held c =
      if b = true ∧ (x.carrier c).values.present = true then listAfterRetirement (x.held c) x.timer.slot else x.held c)
    ∧ (∀ c, (x.handTick b o).figures c =
      if b = true ∧ (x.carrier c).values.present = true
      then (x.figures c).takeSlot (x.carrier c).state (retiredSlot (x.held c) x.timer.slot).rb else x.figures c)
    ∧ (x.handTick b o).timer = (x.clockTick.windowTick b).timer
    ∧ (x.handTick b o).arbiter = { x.arbiter with spacing := x.arbiter.spacing - 1 }
    ∧ (x.handTick b o).loader = { x.loader with heartbeatTimer := x.loader.heartbeatTimer.map fun n => n + 1 }
    ∧ OnlyChanges x (x.handTick b o) [.controller, .timer, .monitor, .evaluator, .arbiter, .loader, .due] := by
  obtain ⟨arbiter, loader, timer, carrier, held, figures, changes⟩ := plainTakings_blocks x b
  have fresh : x.due.contains .heartbeatLapse = false := by
    rw [← Bool.not_eq_true, List.contains_iff_mem]
    exact fun hm => Bool.noConfusion (kept _ hm)
  rw [handTick_plain b o fresh hp]
  exact ⟨carrier, held, figures, timer, arbiter, loader, changes.seq (dropDue_changes _ _)⟩

/-- A plain tick brings about what its counters reach. -/
theorem handTick_brings {clean : Bool} (ready : TickReady s x) (kept : ∀ d ∈ x.due, d.ofTick = false) (hp : PlainTick s o)
    (hclean : (x.timer.clean && b) = (s.timer.clean && clean)) :
    TickBrings s (x.handTick b o) (x.retires b) b clean x.due := by
  obtain ⟨ticked, -⟩ := handTick_blocks (b := b) kept (ready.plain hp)
  have mem : ∀ d, _ := fun d => mem_handTick_due (b := b) kept (ready.plain hp) (d := d)
  have record : ∀ c, x.carrier c = s.carrier c := fun c => ready.others.carrier c
  have notKept : ∀ d : Due, d.ofTick = true → d ∉ x.due := fun d ht hm => by simp [kept d hm] at ht
  simp only [ready.slotsPerSecond, ready.globals, ready.closesWindow, ready.looks, ready.clockSet, ready.subSecond, ready.number,
    hclean, ready.others.loader, ready.others.arbiter, mem_carrierDue, record] at mem ticked
  refine ⟨?_, ?_, ?_, fun c beacon => ?_, fun c => ?_, fun c => ?_, fun c => ?_, fun c => ?_, ?_, fun w c l => ?_, fun d hd => ?_⟩
  · simp [mem, notKept .clockSecond rfl]
  · simp [mem, notKept .heartbeatLapse rfl]
  · simp [mem, notKept .spacingExpiry rfl]
  · rw [ticked c]
    have order : (∃ u, x.retires b c = some u ∧ s.globals.drainConfirm ≤ ((s.carrier c).tick (x.retires b c)).emptyRun
          ∧ beacon = u.beacon) ↔
        s.globals.drainConfirm ≤ ((s.carrier c).tick (x.retires b c)).emptyRun ∧ ∃ u, x.retires b c = some u ∧ u.beacon = beacon :=
      ⟨fun ⟨u, hu, confirmed, e⟩ => ⟨confirmed, u, hu, e.symm⟩, fun ⟨confirmed, u, hu, e⟩ => ⟨u, hu, confirmed, e.symm⟩⟩
    simpa [mem, notKept (.drainConfirmed c beacon) rfl] using fun _ => order
  · rw [ticked c]
    simpa [mem, notKept (.drainDeadline c) rfl] using fun _ => and_comm
  · rw [ticked c]
    simp [mem, notKept (.beaconStarved c) rfl]
  · have notice := fun h => notice_iff (s.carrier c) h (x.retires b c)
    simpa [mem, notKept (.readyNotice c) rfl] using notice
  · have expiry : (s.carrier c).state = .warming →
        (((s.carrier c).tick (x.retires b c)).values.warmupTimeout ≤ ((s.carrier c).tick (x.retires b c)).warmupElapsed ↔
          (s.carrier c).values.warmupTimeout ≤ (s.carrier c).warmupElapsed + 1) := fun h => by
      rw [tick_values, tick_warmupElapsed _ h]
    simpa [mem, notKept (.warmupExpiry c) rfl] using expiry
  · simp [mem, notKept .generation rfl, State.looks]
  · simp [mem, notKept (.boundary w c l) rfl]
  · rw [mem]
    refine ⟨fun h => h.resolve_right ?_, .inl⟩
    rintro (⟨-, rfl⟩ | ⟨-, rfl⟩ | ⟨c, h⟩ | ⟨-, rfl⟩ | ⟨-, rfl⟩ | ⟨-, rfl⟩)
    case inr.inr.inl =>
      obtain ⟨-, ⟨u, -, -, rfl⟩ | ⟨-, -, rfl⟩⟩ | ⟨-, -, -, rfl⟩ | ⟨-, -, rfl⟩ | ⟨-, -, rfl⟩ := h <;> cases hd
    all_goals cases hd

end Handed

/-! ### The counters of the blocks -/

theorem windowTick_timer (x : State) (b : Bool) : (x.windowTick b).timer = { x.timer with
    windowTicks := (x.windowTick b).timer.windowTicks
    windowNumber := (x.windowTick b).timer.windowNumber
    clean := (x.windowTick b).timer.clean } := by
  rw [State.windowTick]
  split
  · rfl
  · split <;> rfl

theorem windowTick_before (x : State) (b : Bool) (h : x.loader.applied = none) : x.windowTick b = x := by
  rw [State.windowTick, if_pos (by simp [h])]

/-- What a plain tick leaves of the timer but for the window in progress. -/
theorem handTick_plainTimer {x : State} {b : Bool} {o : TickOrder} (kept : ∀ d ∈ x.due, d.ofTick = false) (hp : PlainTick x o) :
    (x.handTick b o).timer = { x.timer with
      subSecond := if x.timer.clockSet = true then x.timer.subSecond + 1 else x.timer.subSecond
      windowTicks := (x.handTick b o).timer.windowTicks
      windowNumber := (x.handTick b o).timer.windowNumber
      clean := (x.handTick b o).timer.clean } := by
  obtain ⟨-, -, -, timer, -⟩ := handTick_blocks (b := b) kept hp
  rw [timer, windowTick_timer, clockTick_timer]

theorem clockTick_closesWindow (x : State) : x.clockTick.closesWindow = x.closesWindow := by
  have loader := (clockTick_changes x).loader
  rw [State.closesWindow, State.closesWindow, State.globals, State.globals, loader, clockTick_timer]

theorem handTick_counters {s x : State} {b clean : Bool} {o : TickOrder} (ready : TickReady s x)
    (kept : ∀ d ∈ x.due, d.ofTick = false) (hp : PlainTick s o) (hclean : (x.timer.clean && b) = (s.timer.clean && clean)) :
    CountersTicked s (x.handTick b o) clean := by
  obtain ⟨-, -, -, timer, arbiter, loader, -⟩ := handTick_blocks (b := b) kept (ready.plain hp)
  have whole := handTick_plainTimer (b := b) kept (ready.plain hp)
  have applied : x.clockTick.loader = s.loader := (clockTick_changes x).loader.trans ready.others.loader
  refine ⟨by rw [arbiter, ready.others.arbiter], by rw [loader, ready.others.loader], ?_, ?_, ?_, ?_, fun ha hc => ?_, fun ha => ?_⟩
  · rw [whole, ready.clockSet, ready.subSecond]
  · rw [whole, ready.seconds]
  · rw [whole, ready.clockSet]
  · rw [whole, ready.nightHold]
  · rw [timer, windowTick_within _ b (applied ▸ ha) (by rw [clockTick_closesWindow, ready.closesWindow, hc]), clockTick_timer]
    exact ⟨congrArg (· + 1) ready.ticks, ready.number, hclean⟩
  · rw [timer, windowTick_before _ b (applied ▸ ha), clockTick_timer]
    exact ⟨ready.ticks, ready.number⟩

/-! ### What the Slot Timer makes of an external tick -/

/-- The state in which the Slot Timer hands an external tick on (R28, R29, R33). -/
def State.beginsTick (s : State) (mark : Bool) : State :=
  match s.timer.state, mark with
  | .unsynced, false | .locked, false => s.advanceSlot
  | .unsynced, true | .holdover, _ => s.lockTimer
  | .locked, true => if s.timer.slot = 4095 then s.advanceSlot else s.slip

section Begins

variable {s : State} {mark : Bool}

theorem beginsTick_unlocked (h : s.timer.state ≠ .holdover) : s.beginsTick false = s.advanceSlot := by
  rw [State.beginsTick.eq_def]
  cases hs : s.timer.state <;> simp_all

theorem beginsTick_locks (h : s.timer.state ≠ .locked) : s.beginsTick true = s.lockTimer := by
  rw [State.beginsTick.eq_def]
  cases hs : s.timer.state <;> simp_all

theorem beginsTick_marked (h : s.timer.state = .locked) :
    s.beginsTick true = if s.timer.slot = 4095 then s.advanceSlot else s.slip := by
  rw [State.beginsTick.eq_def, h]

/-- The ways of an external tick that is taken: to the next slot, by an entry to LOCKED, or by a slip. -/
theorem beginsTick_cases (h : s.timer.state ≠ .holdover ∨ mark = true) :
    (s.beginsTick mark = s.advanceSlot ∧ (mark = false ∧ s.timer.state ≠ .holdover ∨ s.timer.state = .locked ∧ s.timer.slot = 4095))
    ∨ (s.beginsTick mark = s.lockTimer ∧ mark = true ∧ s.timer.state ≠ .locked)
    ∨ (s.beginsTick mark = s.slip ∧ mark = true ∧ s.timer.state = .locked ∧ s.timer.slot ≠ 4095) := by
  cases mark with
  | false =>
    have awake : s.timer.state ≠ .holdover := h.resolve_right (by simp)
    exact .inl ⟨beginsTick_unlocked awake, .inl ⟨rfl, awake⟩⟩
  | true =>
    by_cases locked : s.timer.state = .locked
    · by_cases last : s.timer.slot = 4095
      · exact .inl ⟨by rw [beginsTick_marked locked, if_pos last], .inr ⟨locked, last⟩⟩
      · exact .inr (.inr ⟨by rw [beginsTick_marked locked, if_neg last], rfl, locked, last⟩)
    · exact .inr (.inl ⟨beginsTick_locks locked, rfl, locked⟩)

theorem slips_iff : s.slips mark = true ↔ mark = true ∧ s.timer.state = .locked ∧ s.timer.slot ≠ 4095 := by
  simp only [State.slips, Bool.and_eq_true, beq_iff_eq, bne_iff_ne, ne_eq]
  tauto

theorem takeExternalTick_eq (h : s.timer.state ≠ .holdover ∨ mark = true) (o : TickOrder) :
    s.takeExternalTick mark o = (s.beginsTick mark).handTick (decide (s.timer.state = .locked) || mark) o := by
  rw [State.takeExternalTick.eq_def, State.beginsTick.eq_def]
  cases hs : s.timer.state <;> cases mark <;> simp_all
  split <;> rfl

theorem exec_externalTick (hd : s.due = []) (h : s.timer.state ≠ .holdover ∨ mark = true) (o : TickOrder) :
    exec (.externalTick mark o) s =
      .next ((s.beginsTick mark).handTick (decide (s.timer.state = .locked) || mark) o) := by
  have taken : ¬(s.timer.state = .holdover ∧ mark = false) := by
    rintro ⟨hs, hm⟩
    simp_all
  rw [exec, execExternalTick, if_neg taken, settle_nothing hd, takeExternalTick_eq h]

theorem advanceSlot_ready (s : State) : TickReady s s.advanceSlot :=
  ⟨fun p hp => by cases p <;> simp_all [SamePart, State.advanceSlot], rfl, rfl, rfl, rfl, rfl, rfl⟩

theorem lockTimer_ready (s : State) : TickReady s s.lockTimer :=
  ⟨fun p hp => by cases p <;> simp_all [SamePart, State.lockTimer], rfl, rfl, rfl, rfl, rfl, rfl⟩

theorem slip_ready (s : State) : TickReady s s.slip :=
  ⟨fun p hp => by cases p <;> simp_all [SamePart, State.slip], rfl, rfl, rfl, rfl, rfl, rfl⟩

theorem beginsTick_ready (h : s.timer.state ≠ .holdover ∨ mark = true) : TickReady s (s.beginsTick mark) := by
  obtain ⟨e, -⟩ | ⟨e, -⟩ | ⟨e, -⟩ := beginsTick_cases h <;> rw [e]
  · exact advanceSlot_ready s
  · exact lockTimer_ready s
  · exact slip_ready s

theorem beginsTick_due (h : s.timer.state ≠ .holdover ∨ mark = true) : (s.beginsTick mark).due = s.due := by
  obtain ⟨e, -⟩ | ⟨e, -⟩ | ⟨e, -⟩ := beginsTick_cases h <;> rw [e] <;> rfl

theorem beginsTick_held (h : s.timer.state ≠ .holdover ∨ mark = true) (c : Carrier) :
    (s.beginsTick mark).held c = s.listAtTick mark c := by
  rw [State.listAtTick]
  obtain ⟨e, why⟩ | ⟨e, hm, hl⟩ | ⟨e, hm, hl, last⟩ := beginsTick_cases h <;> rw [e]
  · rw [if_neg (fun k => by obtain ⟨hm, hl, last⟩ := slips_iff.mp k; simp_all)]
    rfl
  · rw [if_neg (fun k => hl (slips_iff.mp k).2.1)]
    rfl
  · rw [if_pos (slips_iff.mpr ⟨hm, hl, last⟩)]
    exact held_flushAll s c

theorem beginsTick_slot (h : s.timer.state ≠ .holdover ∨ mark = true) : (s.beginsTick mark).timer.slot = s.slotBegun mark := by
  rw [State.slotBegun]
  obtain ⟨e, ⟨hm, -⟩ | ⟨-, last⟩⟩ | ⟨e, hm, -⟩ | ⟨e, hm, -⟩ := beginsTick_cases h <;> rw [e]
  · rw [if_neg (by simp [hm])]
    rfl
  · show s.timer.slot + 1 = _
    rw [last]
    cases mark <;> rfl
  · rw [if_pos hm]
    rfl
  · rw [if_pos hm]
    rfl

theorem beginsTick_lossTimer (h : s.timer.state ≠ .holdover ∨ mark = true) : (s.beginsTick mark).timer.lossTimer = 0 := by
  obtain ⟨e, -⟩ | ⟨e, -⟩ | ⟨e, -⟩ := beginsTick_cases h <;> rw [e] <;> rfl

theorem beginsTick_state (h : s.timer.state ≠ .holdover ∨ mark = true) :
    (s.beginsTick mark).timer.state = if mark = true then .locked else s.timer.state := by
  obtain ⟨e, ⟨hm, -⟩ | ⟨hl, -⟩⟩ | ⟨e, hm, -⟩ | ⟨e, hm, hl, -⟩ := beginsTick_cases h <;> rw [e]
  · rw [if_neg (by simp [hm])]
    rfl
  · show s.timer.state = _
    rw [hl, ite_self]
  · rw [if_pos hm]
    rfl
  · rw [if_pos hm]
    exact hl

theorem beginsTick_holdover (h : s.timer.state ≠ .holdover ∨ mark = true) : (s.beginsTick mark).timer.holdover =
    if mark = true ∧ s.timer.state ≠ .locked then none else s.timer.holdover := by
  obtain ⟨e, why⟩ | ⟨e, hm, hl⟩ | ⟨e, hm, hl, -⟩ := beginsTick_cases h <;> rw [e]
  · rw [if_neg (fun k => by obtain ⟨hm, -⟩ | ⟨hl, -⟩ := why <;> simp_all)]
    rfl
  · rw [if_pos ⟨hm, hl⟩]
    rfl
  · rw [if_neg (fun k => k.2 hl)]
    rfl

theorem beginsTick_clean (h : s.timer.state ≠ .holdover ∨ mark = true) (b : Bool) :
    ((s.beginsTick mark).timer.clean && b) = (s.timer.clean && (b && !s.slips mark)) := by
  obtain ⟨e, why⟩ | ⟨e, hm, hl⟩ | ⟨e, hm, hl, last⟩ := beginsTick_cases h <;> rw [e]
  · have steady : s.slips mark = false := by
      rw [← Bool.not_eq_true, slips_iff]
      rintro ⟨hm, hl, last⟩
      simp_all
    rw [steady]
    simp [State.advanceSlot]
  · have steady : s.slips mark = false := by
      rw [← Bool.not_eq_true, slips_iff]
      exact fun k => hl k.2.1
    rw [steady]
    simp [State.lockTimer]
  · rw [slips_iff.mpr ⟨hm, hl, last⟩]
    simp [State.slip]

theorem beginsTick_report (h : s.timer.state ≠ .holdover ∨ mark = true) :
    (s.timer.state = .locked → s.slips mark = false → (s.beginsTick mark).report = s.report)
    ∧ (s.slips mark = true → (s.beginsTick mark).report = s.report.hand
        { window := s.timer.windowNumber, seconds := s.timer.seconds, slot := 0, body := .timing .slip })
    ∧ (s.timer.state ≠ .locked → mark = true → (s.beginsTick mark).report = s.report.hand
        { window := s.timer.windowNumber, seconds := s.timer.seconds, slot := 0, body := .timing .locked })
    ∧ (mark = false → (s.beginsTick mark).report = s.report) := by
  obtain ⟨e, why⟩ | ⟨e, hm, hl⟩ | ⟨e, hm, hl, last⟩ := beginsTick_cases h <;> rw [e]
  · refine ⟨fun _ _ => rfl, fun k => ?_, fun hl hm => ?_, fun _ => rfl⟩
    · obtain ⟨hm, hl, last⟩ := slips_iff.mp k
      simp_all
    · simp_all
  · exact ⟨fun k => absurd k hl, fun k => absurd (slips_iff.mp k).2.1 hl, fun _ _ => rfl, fun k => by simp [hm] at k⟩
  · refine ⟨fun _ k => ?_, fun _ => rfl, fun k => absurd hl k, fun k => by simp [hm] at k⟩
    rw [slips_iff.mpr ⟨hm, hl, last⟩] at k
    cases k

end Begins

end Sys2Proof.Machine
end

section
/-! PROOF. Plain ticks: the locked tick (O16), the unlocked one (O17) and the slip (O18). -/

namespace Sys2Proof.Machine

section Locked

variable {s : State} {mark : Bool}

/-- The slot a carrier retires at a locked external tick. -/
theorem beginsTick_retires (h : s.timer.state ≠ .holdover ∨ mark = true) (c : Carrier) : (s.beginsTick mark).retires true c =
    if (s.carrier c).values.present = true then some (retiredSlot (s.listAtTick mark c) (s.slotBegun mark)) else none := by
  rw [State.retires, beginsTick_held h, beginsTick_slot h, (beginsTick_ready h).others.carrier c]
  simp only [true_and]

end Locked

/-- Settles O16. -/
theorem lockedTickResult : Obligations.LockedTickResult := by
  intro s mark o hd hlock hp
  have taken : s.timer.state ≠ .holdover ∨ mark = true := hlock.imp_left fun hl => by simp [hl]
  have locked : (decide (s.timer.state = .locked) || mark) = true := by simpa using hlock
  have ready := beginsTick_ready taken
  have kept : ∀ d ∈ (s.beginsTick mark).due, d.ofTick = false := by simp [beginsTick_due taken, hd]
  have clean : ((s.beginsTick mark).timer.clean && true) = (s.timer.clean && !s.slips mark) := by
    rw [beginsTick_clean taken, Bool.true_and]
  obtain ⟨carrier, held, figures, -, -, -, changes⟩ := handTick_blocks (b := true) kept (ready.plain hp)
  have timer := handTick_plainTimer (b := true) kept (ready.plain hp)
  have brings := handTick_brings (b := true) ready kept hp clean
  have record := fun c => ready.others.carrier c
  have measured := fun c => ready.others.figures c
  rw [beginsTick_due taken, hd, funext (beginsTick_retires taken)] at brings
  refine ⟨(s.beginsTick mark).handTick true o, by rw [exec_externalTick hd taken, locked], fun c hpres => ⟨?_, ?_, ?_⟩,
    fun c hpres => ⟨?_, ?_, ?_⟩, ?_, ?_, ?_, fun hl => ?_, fun hl => ?_, handTick_counters ready kept hp clean, ?_, ?_, ?_, brings, ?_⟩
  · rw [carrier, beginsTick_retires taken, if_pos hpres, record]
    exact tick_ticked _ _
  · rw [held, record, if_pos ⟨rfl, hpres⟩, beginsTick_held taken, beginsTick_slot taken]
    rfl
  · rw [figures, record, if_pos ⟨rfl, hpres⟩, beginsTick_held taken, beginsTick_slot taken, measured]
    exact takeSlot_measured _ _ _
  · rw [carrier, beginsTick_retires taken, if_neg (by simp [hpres]), record]
    exact tick_ticked _ _
  · rw [held, record, if_neg (by simp [hpres]), beginsTick_held taken]
  · rw [figures, record, if_neg (by simp [hpres]), measured]
  · rw [timer]
    show (s.beginsTick mark).timer.state = _
    rw [beginsTick_state taken]
    obtain hl | hm := hlock
    · rw [hl, ite_self]
    · rw [if_pos hm]
  · rw [timer]; exact beginsTick_slot taken
  · rw [timer]; exact beginsTick_lossTimer taken
  · rw [timer]
    show (s.beginsTick mark).timer.holdover = _
    rw [beginsTick_holdover taken, if_neg (fun k => k.2 hl)]
  · rw [timer]
    show (s.beginsTick mark).timer.holdover = _
    rw [beginsTick_holdover taken, if_pos ⟨hlock.resolve_left hl, hl⟩]
  · intro hl steady
    rw [changes.report]
    exact (beginsTick_report taken).1 hl steady
  · intro slips
    rw [changes.report]
    exact (beginsTick_report taken).2.1 slips
  · intro hl
    rw [changes.report]
    exact (beginsTick_report taken).2.2.1 hl (hlock.resolve_left hl)
  · exact ready.others.seq changes

/-! ### The unlocked tick -/

theorem retires_unlocked (x : State) (c : Carrier) : x.retires false c = none := if_neg (by simp)

/-- An unlocked tick retires and measures nothing. -/
theorem slotsTick_unlocked_changes (s : State) (fresh : List Carrier) :
    OnlyChanges s (s.slotsTick false fresh) [.controller, .due] := by
  refine foldl_onlyChanges _ _ (fun t c => ?_) _ _
  rw [carrierTick, Bool.false_and, if_neg Bool.false_ne_true]
  exact (setCarrier_changes t c _).seq (dropDue_changes _ _)

theorem handTick_unlocked_changes {x : State} {o : TickOrder} (fresh : x.due.contains .heartbeatLapse = false)
    (hp : PlainTick x o) : OnlyChanges x (x.handTick false o) [.controller, .timer, .arbiter, .loader, .due] := by
  have count : OnlyChanges x ((x.clockTick.windowTick false).heartbeatTick) [.timer, .loader, .due] :=
    ((clockTick_changes x).seq (windowTick_changes _ false) (n := [.timer, .due])).seq (heartbeatTick_changes _)
  rw [handTick_plain false o fresh hp, State.plainTakings]
  exact ((count.seq (slotsTick_unlocked_changes _ []) (n := [.controller, .timer, .loader, .due])).seq
    (arbiterTick_changes _) (n := [.controller, .timer, .arbiter, .loader, .due])).seq (dropDue_changes _ _)

/-- An unlocked tick handed on, its slot begun. -/
theorem handTick_unlocked {s x : State} {o : TickOrder} (ready : TickReady s x) (steady : OnlyChanges s x [.timer, .due])
    (slot : x.timer.slot = s.timer.slot + 1) (kept : ∀ d ∈ x.due, d.ofTick = false) (hp : PlainTick s o) :
    UnlockedTick s (x.handTick false o) x.due := by
  have clean : (x.timer.clean && false) = (s.timer.clean && false) := by simp
  have fresh : x.due.contains .heartbeatLapse = false := by
    rw [← Bool.not_eq_true, List.contains_iff_mem]
    exact fun hm => Bool.noConfusion (kept _ hm)
  obtain ⟨carrier, -⟩ := handTick_blocks (b := false) kept (ready.plain hp)
  have timer := handTick_plainTimer (b := false) kept (ready.plain hp)
  have brings := handTick_brings (b := false) ready kept hp clean
  rw [funext (retires_unlocked x)] at brings
  refine ⟨fun c => ?_, by rw [timer]; exact slot, handTick_counters ready kept hp clean, brings,
    steady.seq (handTick_unlocked_changes fresh (ready.plain hp))⟩
  rw [carrier, retires_unlocked, steady.carrier c]
  exact tick_ticked _ _

/-- The state in which the Slot Timer hands a local tick on (R32). -/
def State.beginsLocal (s : State) : State :=
  { s with timer := { s.timer with slot := s.timer.slot + 1, holdover := some s.slotLength } }

theorem beginsLocal_changes (s : State) : OnlyChanges s s.beginsLocal [.timer, .due] := by
  intro p hp; cases p <;> simp_all [SamePart, State.beginsLocal]

theorem beginsLocal_ready (s : State) : TickReady s s.beginsLocal :=
  ⟨(beginsLocal_changes s).mono (by decide), rfl, rfl, rfl, rfl, rfl, rfl⟩

theorem exec_localTick {s : State} (hd : s.due = []) (h : s.timer.state = .holdover) (o : TickOrder) :
    exec (.localTick o) s = .next (s.beginsLocal.handTick false o) := by
  rw [exec, execLocalTick, settle_nothing hd]
  simp only [h]
  rfl

/-- Settles O17. -/
theorem localTickResult : Obligations.LocalTickResult := by
  intro s o hd
  refine ⟨fun h => ?_, fun h hp => ?_, fun h hp => ?_⟩
  · rw [exec, execLocalTick, settle_nothing hd]
    cases hs : s.timer.state <;> simp_all
  · have kept : ∀ d ∈ s.beginsLocal.due, d.ofTick = false := by simp [State.beginsLocal, hd]
    have ready := beginsLocal_ready s
    have ticked := handTick_unlocked ready (beginsLocal_changes s) rfl kept hp
    have timer := handTick_plainTimer (b := false) kept (ready.plain hp)
    rw [show s.beginsLocal.due = [] from hd] at ticked
    refine ⟨_, exec_localTick hd h o, ticked, ?_, ?_, ?_⟩
    · rw [timer]; exact h
    · rw [timer]; rfl
    · rw [timer]; rfl
  · have awake : s.timer.state ≠ .holdover ∨ false = true := .inl (by simp [h])
    have begins : s.beginsTick false = s.advanceSlot := beginsTick_unlocked (by simp [h])
    have kept : ∀ d ∈ s.advanceSlot.due, d.ofTick = false := by simp [State.advanceSlot, hd]
    have ready := advanceSlot_ready s
    have steady : OnlyChanges s s.advanceSlot [.timer, .due] := by
      intro p hp; cases p <;> simp_all [SamePart, State.advanceSlot]
    have ticked := handTick_unlocked ready steady rfl kept hp
    have timer := handTick_plainTimer (b := false) kept (ready.plain hp)
    rw [show s.advanceSlot.due = [] from hd] at ticked
    refine ⟨s.advanceSlot.handTick false o, ?_, ticked, ?_, ?_, ?_⟩
    · rw [exec_externalTick hd awake, begins, h]; rfl
    · rw [timer]; exact h
    · rw [timer]; rfl
    · rw [timer]; rfl

/-- A window that is not clean and does not close stays so. -/
theorem windowTick_unclean {x : State} (b : Bool) (hc : x.closesWindow = false) (h : x.timer.clean = false) :
    (x.windowTick b).timer.clean = false := by
  rw [State.windowTick]
  split
  · exact h
  · rw [if_neg (by simp [hc])]
    simp [h]

/-- Settles O18, from the locked tick: at a slip every held list is flushed, so that what is retired is an empty slot. -/
theorem slipResult : Obligations.SlipResult := by
  intro s o hd hl last hp
  have slips : s.slips true = true := slips_iff.mpr ⟨rfl, hl, last⟩
  have flushed : ∀ c, s.listAtTick true c = [] := fun c => by rw [State.listAtTick, if_pos slips]
  obtain ⟨t, taken, present, absent, state, slot, loss, -, -, counters, -, report, -, brings, -⟩ :=
    lockedTickResult s true o hd (.inl hl) hp
  obtain ⟨-, -, -, -, -, -, within, ended⟩ := counters
  obtain ⟨-, -, -, -, -, -, -, -, -, boundary, -⟩ := brings
  refine ⟨t, taken, fun c => ?_, fun c hc => ?_, state, slot, loss, fun hc => ?_, fun hc => ?_, report slips⟩
  · by_cases hc : (s.carrier c).values.present = true
    · rw [(present c hc).2.1, flushed]
      rfl
    · rw [(absent c (by simpa using hc)).2.1, flushed]
  · have retired : retiredSlot (s.listAtTick true c) (s.slotBegun true) = { rb := 0, beacon := false } := by rw [flushed]; rfl
    obtain ⟨ticked, -, measured⟩ := present c hc
    rw [retired] at ticked measured
    exact ⟨ticked, measured⟩
  · have begins : s.beginsTick true = s.slip := by rw [beginsTick_marked hl, if_neg last]
    have made := exec_externalTick hd (.inr (rfl : true = true)) o
    rw [taken, begins, Bool.or_true] at made
    obtain rfl : t = s.slip.handTick true o := by injection made
    have ready := slip_ready s
    have kept : ∀ d ∈ s.slip.due, d.ofTick = false := by simp [show s.slip.due = [] from hd]
    obtain ⟨-, -, -, timer, -⟩ := handTick_blocks (b := true) kept (ready.plain hp)
    rw [timer]
    exact windowTick_unclean true (by rw [clockTick_closesWindow, ready.closesWindow, hc]) (by rw [clockTick_timer]; rfl)
  · exact (boundary _ _ _).mpr ⟨hc, rfl, by simp [slips], rfl⟩

end Sys2Proof.Machine
end

section
/-! PROOF. What every tick leaves of the timer, in whatever order its takings come (O15), and the boundary that it hands on (O19). -/

namespace Sys2Proof.Machine

/-! ### What an application leaves of the Policy Loader -/

theorem heartbeatTakes_loader (s : State) (old : Option Nat) (new : Nat) : (s.heartbeatTakes old new).loader =
    { s.loader with
      heartbeat := (s.heartbeatTakes old new).loader.heartbeat
      heartbeatTimer := (s.heartbeatTakes old new).loader.heartbeatTimer } := by
  rw [State.heartbeatTakes.eq_def]
  split
  · rfl
  · split
    · split <;> rfl
    · split
      · dsimp only
        split <;> rfl
      · rfl

theorem readied_loader (s : State) (w : Policy) : (s.readied w).loader =
    { s.loader with applied := some (clampPolicy w), lastApplied := mirrorGeneration s.loader.mirror } := by
  have before : (s.beginWindows.evaluatorTakes (clampPolicy w)).loader = s.loader := by
    rw [(evaluatorTakes_changes _ _).loader, (beginWindows_changes s).loader]
  show (((s.beginWindows.evaluatorTakes (clampPolicy w)).install (clampPolicy w)).takeRing (clampPolicy w)).loader = _
  rw [(takeRing_onlyReport _ _).loader]
  show { (s.beginWindows.evaluatorTakes (clampPolicy w)).loader with
    applied := some (clampPolicy w)
    lastApplied := mirrorGeneration (s.beginWindows.evaluatorTakes (clampPolicy w)).loader.mirror } = _
  rw [before]

theorem applyGeneration_loader (s : State) (w : Policy) : (s.applyGeneration w).loader =
    { s.loader with
      applied := some (clampPolicy w), lastApplied := mirrorGeneration s.loader.mirror
      heartbeat := (s.applyGeneration w).loader.heartbeat
      heartbeatTimer := (s.applyGeneration w).loader.heartbeatTimer } := by
  rw [applyGeneration_eq, heartbeatTakes_loader, (timerTakes_changes _ _).loader, (controllerTakes_changes _ _).loader,
    readied_loader]

/-- Once the Policy Loader has looked, no generation is staged any more (R140, R143, R145). -/
theorem takeGeneration_staged (s : State) : s.takeGeneration.loader.staged = false := by
  rw [State.takeGeneration]
  split
  · split
    · show PolicyLoader.staged { s.loader with lastRefused := mirrorGeneration s.loader.mirror } = false
      simp [PolicyLoader.staged]
    · rw [applyGeneration_loader]
      simp [PolicyLoader.staged]
  · next h => simpa using h

/-! ### What the takings of a tick leave of the timer -/

/-- The Slot Timer keeps its state and its loss timer, and outside HOLDOVER its generator. -/
structure TimerKept (s t : State) : Prop where
  state : t.timer.state = s.timer.state
  lossTimer : t.timer.lossTimer = s.timer.lossTimer
  holdover : s.timer.state ≠ .holdover → t.timer.holdover = s.timer.holdover

/-- Once a generation is applied one stays applied, and the window in progress is kept. -/
structure WindowKept (s t : State) : Prop where
  applied : s.loader.applied.isSome = true → t.loader.applied.isSome = true
  window : s.loader.applied.isSome = true → t.timer.windowNumber = s.timer.windowNumber
    ∧ t.timer.windowTicks = s.timer.windowTicks ∧ t.timer.clean = s.timer.clean

/-- A taking other than that of the window count keeps both. -/
structure TakingKeeps (s t : State) : Prop where
  timer : TimerKept s t
  window : WindowKept s t

theorem TimerKept.trans {s t u : State} (h : TimerKept s t) (k : TimerKept t u) : TimerKept s u :=
  ⟨k.state.trans h.state, k.lossTimer.trans h.lossTimer, fun hs => (k.holdover (by rw [h.state]; exact hs)).trans (h.holdover hs)⟩

theorem WindowKept.trans {s t u : State} (h : WindowKept s t) (k : WindowKept t u) : WindowKept s u := by
  refine ⟨fun hs => k.applied (h.applied hs), fun hs => ?_⟩
  obtain ⟨n, w, c⟩ := h.window hs
  obtain ⟨n', w', c'⟩ := k.window (h.applied hs)
  exact ⟨n'.trans n, w'.trans w, c'.trans c⟩

namespace TakingKeeps

theorem trans {s t u : State} (h : TakingKeeps s t) (k : TakingKeeps t u) : TakingKeeps s u :=
  ⟨h.timer.trans k.timer, h.window.trans k.window⟩

theorem of_eq {s t : State} (timer : t.timer = s.timer)
    (applied : s.loader.applied.isSome = true → t.loader.applied.isSome = true) : TakingKeeps s t :=
  ⟨⟨by rw [timer], by rw [timer], fun _ => by rw [timer]⟩, ⟨applied, fun _ => by rw [timer]; exact ⟨rfl, rfl, rfl⟩⟩⟩

theorem of_same {s t : State} (timer : t.timer = s.timer) (loader : t.loader = s.loader) : TakingKeeps s t :=
  .of_eq timer (by rw [loader]; exact id)

theorem refl (s : State) : TakingKeeps s s := .of_same rfl rfl

theorem ite {s t u : State} {c : Prop} [Decidable c] (h : TakingKeeps s t) (k : TakingKeeps s u) :
    TakingKeeps s (if c then t else u) := ite_keeps h k

variable (s : State)

theorem takeClockSecond : TakingKeeps s s.takeClockSecond :=
  ⟨⟨rfl, rfl, fun _ => rfl⟩, ⟨id, fun _ => ⟨rfl, rfl, rfl⟩⟩⟩

theorem takeAtOnce (d : Due) : TakingKeeps s (s.takeAtOnce d) := by
  cases d with
  | clockSecond => exact takeClockSecond s
  | drainConfirmed c b => exact .of_same (takeDrainConfirmed_changes s c b).timer (takeDrainConfirmed_changes s c b).loader
  | drainDeadline c => exact .of_same (takeDrainDeadline_changes s c).timer (takeDrainDeadline_changes s c).loader
  | beaconStarved c => exact .of_same (takeBeaconStarved_changes s c).timer (takeBeaconStarved_changes s c).loader
  | heartbeatLapse => exact .of_eq rfl id
  | readyNotice | warmupExpiry | spacingExpiry | boundary | generation | verdicts | grant | demand | failSafe | tickLoss =>
    exact refl s

theorem settleAtOnce : TakingKeeps s s.settleAtOnce :=
  foldl_keeps (P := TakingKeeps s) (fun t d ht => ht.trans (takeAtOnce t d)) _ (.of_same rfl rfl)

theorem takeFailSafe (f : FailSafe) : TakingKeeps s (s.takeFailSafe f) :=
  .of_same (takeFailSafe_changes s f).timer (takeFailSafe_changes s f).loader

theorem setDue (due : List Due) : TakingKeeps s { s with due := due } := .of_same rfl rfl

theorem takeEarlyLapse : TakingKeeps s s.takeEarlyLapse := by
  rw [State.takeEarlyLapse]
  split
  · have settled := settleAtOnce s
    generalize s.settleAtOnce = t at settled
    exact (settled.trans (setDue t _)).trans (takeFailSafe _ _)
  · exact refl s

theorem clockTick : TakingKeeps s s.clockTick := by
  have loader := (clockTick_changes s).loader
  refine ⟨⟨?_, ?_, fun _ => ?_⟩, ⟨by rw [loader]; exact id, fun _ => ?_⟩⟩ <;> rw [clockTick_timer]
  exact ⟨rfl, rfl, rfl⟩

theorem heartbeatTick : TakingKeeps s s.heartbeatTick :=
  .of_eq (heartbeatTick_changes s).timer (by rw [heartbeatTick_loader]; exact id)

theorem slotsTick (b : Bool) (fresh : List Carrier) : TakingKeeps s (s.slotsTick b fresh) :=
  .of_same (slotsTick_changes s b fresh).timer (slotsTick_changes s b fresh).loader

theorem arbiterTick : TakingKeeps s s.arbiterTick := .of_same (arbiterTick_changes s).timer (arbiterTick_changes s).loader

theorem timerTakes (n : Nat) : TakingKeeps s (s.timerTakes n) := by
  have loader := (timerTakes_changes s n).loader
  rw [State.timerTakes] at loader ⊢
  split
  · next hs =>
    split
    · exact refl s
    · exact ⟨⟨rfl, rfl, fun k => absurd hs k⟩, ⟨id, fun _ => ⟨rfl, rfl, rfl⟩⟩⟩
  · exact ite (.of_same rfl rfl) (refl s)
  · exact ite (.of_same rfl rfl) (refl s)

theorem controllerTakes (p : Policy) : TakingKeeps s (s.controllerTakes p) :=
  .of_same (controllerTakes_changes s p).timer (controllerTakes_changes s p).loader

theorem heartbeatTakes (old : Option Nat) (new : Nat) : TakingKeeps s (s.heartbeatTakes old new) :=
  .of_eq (heartbeatTakes_changes s old new).timer (by rw [heartbeatTakes_loader]; exact id)

theorem evaluatorTakes (p : Policy) : TakingKeeps s (s.evaluatorTakes p) := by
  rw [State.evaluatorTakes.eq_def]
  dsimp only
  split
  · exact .of_same rfl rfl
  · exact ite (.of_same rfl rfl) ⟨⟨rfl, rfl, fun _ => rfl⟩, ⟨id, fun _ => ⟨rfl, rfl, rfl⟩⟩⟩

theorem beginWindows : TakingKeeps s s.beginWindows := by
  rw [State.beginWindows]
  split
  · next first => exact ⟨⟨rfl, rfl, fun _ => rfl⟩, ⟨id, fun k => by simp_all⟩⟩
  · exact refl s

theorem readied (w : Policy) : TakingKeeps s (s.readied w) := by
  have before := (beginWindows s).trans (evaluatorTakes s.beginWindows (clampPolicy w))
  refine before.trans (.of_eq ?_ fun _ => by rw [readied_loader]; rfl)
  show (((s.beginWindows.evaluatorTakes (clampPolicy w)).install (clampPolicy w)).takeRing (clampPolicy w)).timer = _
  rw [(takeRing_onlyReport _ _).timer]
  rfl

theorem takeGeneration : TakingKeeps s s.takeGeneration := by
  rw [State.takeGeneration]
  split
  · split
    · exact .of_eq rfl id
    · rw [applyGeneration_eq]
      have taken := readied s (readPolicy s.loader.mirror)
      generalize s.readied (readPolicy s.loader.mirror) = r at taken
      exact ((taken.trans (controllerTakes r _)).trans (timerTakes _ s.slotLength)).trans (heartbeatTakes _ _ _)
  · exact refl s

theorem lateTakings (b : Bool) (o : TickOrder) : TakingKeeps s (s.lateTakings b o) := by
  rw [State.lateTakings]
  have looked := (settleAtOnce s).trans (takeGeneration s.settleAtOnce)
  generalize s.settleAtOnce.takeGeneration = u at looked
  have slots := looked.trans (ite (c := o.slotsLate = true) (slotsTick u b s.absentees) (refl u))
  exact slots.trans (ite (arbiterTick _) (refl _))

/-- The takings of a tick after that of the window count and the heartbeat. -/
theorem laterTakings (b sw aw lf : Bool) : TakingKeeps ((s.clockTick.windowTick b).heartbeatTick) (s.firstTakings b sw aw lf) := by
  rw [State.firstTakings]
  generalize (s.clockTick.windowTick b).heartbeatTick = u
  have lapse := ite (c := lf = true) (takeEarlyLapse u) (refl u)
  have slots := lapse.trans (ite (c := sw = true) (refl _) (slotsTick _ b []))
  exact slots.trans (ite (refl _) (arbiterTick _))

end TakingKeeps

theorem windowTick_timerKept (s : State) (b : Bool) : TimerKept s (s.windowTick b) := by
  refine ⟨?_, ?_, fun _ => ?_⟩ <;> rw [windowTick_timer]

section HandTick

variable (x : State) (b : Bool) (o : TickOrder)

/-- The takings of a tick after that of the window count, in whatever order, and the boundary after them. -/
theorem handTick_keeps : TakingKeeps (x.clockTick.windowTick b) (x.handTick b o) := by
  have beat := TakingKeeps.heartbeatTick (x.clockTick.windowTick b)
  rw [State.handTick]
  split
  · exact ((beat.trans (.laterTakings x b _ _ _)).trans (.lateTakings _ b o)).trans (.of_same rfl rfl)
  · exact (beat.trans (.laterTakings x b _ _ _)).trans (.of_same rfl rfl)

/-- A tick handed on leaves the timer's state and its loss timer, and outside HOLDOVER its generator. -/
theorem handTick_timerKept : TimerKept x (x.handTick b o) :=
  ((TakingKeeps.clockTick x).timer.trans (windowTick_timerKept _ b)).trans (handTick_keeps x b o).timer

end HandTick

/-- Settles O15. -/
theorem externalTickTable : Obligations.ExternalTickTable := by
  intro s mark o hd
  by_cases hold : s.timer.state = .holdover ∧ mark = false
  · obtain ⟨hs, rfl⟩ := hold
    refine ⟨s, ?_, .refl _ _, ?_, fun _ k => by cases k⟩
    · rw [exec, execExternalTick, if_pos ⟨hs, rfl⟩]
    · rw [hs]
  · have taken : s.timer.state ≠ .holdover ∨ mark = true := by
      by_cases hs : s.timer.state = .holdover
      · exact .inr (by simpa [hs] using hold)
      · exact .inl hs
    have kept := handTick_timerKept (s.beginsTick mark) (decide (s.timer.state = .locked) || mark) o
    have slot := (handTick_timer (s.beginsTick mark) (decide (s.timer.state = .locked) || mark) o).1
    have loss := kept.lossTimer.trans (beginsTick_lossTimer taken)
    have state := kept.state.trans (beginsTick_state taken)
    have holdover := kept.holdover
    have begun := beginsTick_slot taken
    rw [begun] at slot
    refine ⟨_, exec_externalTick hd taken o, ?_, ?_, fun hl hm hp => ?_⟩
    · rw [← takeExternalTick_eq taken]
      exact takeExternalTick_changes s mark o
    · have generator : mark = true → s.timer.state ≠ .locked →
          ((s.beginsTick mark).handTick (decide (s.timer.state = .locked) || mark) o).timer.holdover = none := fun hm hl => by
        rw [holdover (by rw [beginsTick_state taken, if_pos hm]; simp), beginsTick_holdover taken, if_pos ⟨hm, hl⟩]
      cases hs : s.timer.state <;> cases mark <;> simp_all [State.slotBegun]
    · have ready := beginsTick_ready taken
      have kept : ∀ d ∈ (s.beginsTick mark).due, d.ofTick = false := by simp [beginsTick_due taken, hd]
      obtain ⟨-, -, -, -, -, -, changes⟩ :=
        handTick_blocks (b := decide (s.timer.state = .locked) || mark) kept (ready.plain hp)
      rw [changes.report]
      exact (beginsTick_report taken).2.2.1 hl hm

/-! ### The boundary handed on -/

section Boundary

variable {s x : State} {b slip : Bool} {o : TickOrder}

/-- A tick that closes a window, in whatever order its takings come. -/
theorem handTick_boundary (ready : TickReady s x) (ha : s.loader.applied.isSome = true) (hc : s.closesWindow = true)
    (hclean : (x.timer.clean && b) = (s.timer.clean && b && !slip)) : BoundaryHanded s (x.handTick b o) o b slip := by
  have closes : x.closesWindow = true := ready.closesWindow.trans hc
  have looks : x.looks = true := by rw [State.looks, closes, Bool.or_true]
  have applied : x.clockTick.loader.applied.isSome = true := by
    rw [(clockTick_changes x).loader, ready.others.loader]
    exact ha
  have begun := windowTick_closing _ b applied (by rw [clockTick_closesWindow, closes])
  have loader : (x.clockTick.windowTick b).loader.applied.isSome = true := by rw [(windowTick_changes _ b).loader]; exact applied
  obtain ⟨number, ticks, clean⟩ := (handTick_keeps x b o).window.window loader
  have boundary : x.boundaryDue b = [.boundary s.timer.windowNumber (s.timer.clean && b && !slip) b] := by
    rw [State.boundaryDue, if_pos closes, ready.number, hclean]
  refine ⟨?_, ?_, ?_, ?_, fun h1 h2 => ?_, fun h => ?_⟩
  · rw [number, begun, clockTick_timer]
    exact congrArg (· + 1) ready.number
  · rw [ticks, begun]
  · rw [clean, begun]
  · rw [State.handTick, boundary]
    split <;> simp
  · rw [State.handTick, State.appliesEarly, h1, h2, if_neg (by simp), looks]
    simp
  · have early : x.appliesEarly o = true := by
      rw [State.appliesEarly, looks]
      obtain h | h := h <;> simp [h]
    rw [State.handTick, if_pos early]
    show ((x.firstTakings b o.slotsLate o.arbiterLate o.lapseFirst).lateTakings b o).loader.staged = false
    generalize x.firstTakings b o.slotsLate o.arbiterLate o.lapseFirst = u
    have slots : ∀ (t : State) (fresh : List Carrier),
        State.loader (if o.slotsLate = true then t.slotsTick b fresh else t) = t.loader := fun t fresh =>
      ite_keeps (P := fun v => v.loader = t.loader) (slotsTick_changes t b fresh).loader rfl
    have looked := takeGeneration_staged u.settleAtOnce
    rw [State.lateTakings]
    generalize u.settleAtOnce.takeGeneration = t at looked
    have taken := slots t u.absentees
    refine ite_keeps (P := fun v => v.loader.staged = false) ?_ ?_
    · rw [(arbiterTick_changes _).loader, taken]
      exact looked
    · rw [taken]
      exact looked

end Boundary

/-- Settles O19. -/
theorem boundaryTickHandsOn : Obligations.BoundaryTickHandsOn := by
  intro s o hd ha hc
  refine ⟨fun mark taken => ?_, fun hs => ?_⟩
  · exact ⟨_, exec_externalTick hd taken o, handTick_boundary (beginsTick_ready taken) ha hc
      (by rw [beginsTick_clean taken, Bool.and_assoc])⟩
  · exact ⟨_, exec_localTick hd hs o, handTick_boundary (beginsLocal_ready s) ha hc (by simp)⟩

end Sys2Proof.Machine
end

section
/-! PROOF. The lapse of the heartbeat (O50), by its own command and, taken first, within the tick that brings it about. -/

namespace Sys2Proof.Machine

/-- The lapse and its cause taken at once, where a clock second and the lapse are all that is outstanding. -/
theorem takeEarlyLapse_alone {u : State} {second : Prop} [Decidable second]
    (h : u.due = (if second then [.clockSecond] else []) ++ [.heartbeatLapse]) :
    ∃ w, u.takeEarlyLapse = w.takeFailSafe .heartbeatLapsed ∧ w.due = []
      ∧ w.loader = { u.loader with heartbeat := .lapsed, heartbeatTimer := none }
      ∧ w.timer.slot = u.timer.slot ∧ OnlyChanges u w [.timer, .loader, .report, .due] := by
  have has : u.due.contains .heartbeatLapse = true := by simp [h]
  have lapsed : ∀ v : State, ∃ w : State,
      { v.takeHeartbeatLapse with due := v.takeHeartbeatLapse.due.erase (.failSafe .heartbeatLapsed) } = w
      ∧ (v.due = [] → w.due = []) ∧ w.loader = { v.loader with heartbeat := .lapsed, heartbeatTimer := none }
      ∧ w.timer = v.timer ∧ OnlyChanges v w [.loader, .report, .due] := fun v => by
    refine ⟨_, rfl, fun hv => ?_, rfl, rfl, (takeHeartbeatLapse_changes v).seq (dropDue_changes _ _)⟩
    show (v.due ++ [Due.failSafe .heartbeatLapsed]).erase (.failSafe .heartbeatLapsed) = []
    rw [hv]
    rfl
  rw [State.takeEarlyLapse, if_pos has, State.settleAtOnce, h]
  by_cases hs : second
  · rw [if_pos hs]
    obtain ⟨w, e, due, loader, timer, changes⟩ := lapsed (State.takeClockSecond { u with due := [] })
    refine ⟨w, by rw [← e]; rfl, due rfl, loader, by rw [timer]; rfl, ?_⟩
    exact ((dropDue_changes u []).seq (takeClockSecond_changes _) (n := [.timer, .due])).seq changes
  · rw [if_neg hs]
    obtain ⟨w, e, due, loader, timer, changes⟩ := lapsed { u with due := [] }
    refine ⟨w, by rw [← e]; rfl, due rfl, loader, by rw [timer], ?_⟩
    exact (dropDue_changes u []).seq changes

/-- The events that the carriers bring about at a tick of a carrier that is awake are none of a drain or of its beacon. -/
theorem awake_carrierDue {g : Globals} {a : Carrier} {r r' : CarrierRecord} {slot : Option SlotUse} (h : r.state.sleeping = false)
    {d : Due} (hd : d ∈ carrierDue g a r r' slot) : d = .readyNotice a ∨ d = .warmupExpiry a := by
  obtain ⟨hs, -⟩ | ⟨hs, -⟩ | ⟨-, -, e⟩ | ⟨-, -, e⟩ := mem_carrierDue.mp hd
  · simp [hs, CarrierState.sleeping] at h
  · simp [hs, CarrierState.sleeping] at h
  · exact .inl e
  · exact .inr e

/-- What a carrier's event at a tick names: the carrier itself. -/
theorem carrierDue_own {g : Globals} {a c : Carrier} {r r' : CarrierRecord} {slot : Option SlotUse} {d : Due}
    (hd : d ∈ carrierDue g a r r' slot) (named : d = .drainDeadline c ∨ d = .beaconStarved c ∨ ∃ beacon, d = .drainConfirmed c beacon) :
    a = c := by
  obtain ⟨-, ⟨u, -, -, e⟩ | ⟨-, -, e⟩⟩ | ⟨-, -, -, e⟩ | ⟨-, -, e⟩ | ⟨-, -, e⟩ := mem_carrierDue.mp hd <;>
    obtain n | n | ⟨beacon, n⟩ := named <;> rw [e] at n <;> cases n <;> rfl

/-- A tick that closes no window and brings the lapse about, the cause taken before the Carrier Controller's taking of it: the
state in which the carriers take the tick. -/
theorem handTick_lapsed {s : State} {o : TickOrder} {n : Nat} (b : Bool) (hd : s.due = []) (first : o.lapseFirst = true)
    (ha : s.loader.applied.isSome = true) (hc : s.closesWindow = false) (timer : s.loader.heartbeatTimer = some n)
    (reached : s.globals.heartbeatCode * 4096 ≤ n + 1) :
    ∃ v : State, s.advanceSlot.handTick b o = (v.slotsTick b []).arbiterTick
      ∧ v.loader = { s.loader with heartbeat := .lapsed, heartbeatTimer := none }
      ∧ (∀ c, v.carrier c = if s.isCapacity c = true then (s.carrier c).woken .urgent else s.carrier c)
      ∧ (∀ c, v.held c = s.held c) ∧ v.timer.slot = s.timer.slot + 1 ∧ ∃ grants : List Carrier, v.due = grants.map .grant := by
  let before := s.advanceSlot.clockTick.windowTick b
  have ready := advanceSlot_ready s
  have clock : OnlyChanges s.advanceSlot before [.timer, .due] := (clockTick_changes _).seq (windowTick_changes _ b)
  have beat := heartbeatTick_changes before
  have loader : before.loader = s.loader := clock.loader
  have due : before.heartbeatTick.due =
      (if s.timer.clockSet = true ∧ s.advanceSlot.slotsPerSecond ≤ s.timer.subSecond + 1 then [.clockSecond] else [])
        ++ [.heartbeatLapse] := by
    have lapses : ∃ n, s.loader.heartbeatTimer = some n ∧ before.globals.heartbeatCode * 4096 ≤ n + 1 :=
      ⟨n, timer, by rw [globals_congr loader]; exact reached⟩
    rw [heartbeatTick_due, loader, if_pos lapses, windowTick_due, clockTick_due, show s.advanceSlot.due = [] from hd]
    rfl
  obtain ⟨w, lapsed, wdue, wloader, wslot, wchanges⟩ := takeEarlyLapse_alone due
  have cause := takeFailSafe_changes w .heartbeatLapsed
  have record : ∀ c, w.carrier c = s.carrier c := fun c => by
    rw [wchanges.carrier, beat.carrier, clock.carrier]
    rfl
  refine ⟨w.takeFailSafe .heartbeatLapsed, ?_, ?_, fun c => ?_, fun c => ?_, ?_, ?_⟩
  · have looks : s.advanceSlot.looks = false := by
      rw [ready.looks, State.looks, hc, Bool.or_false]
      exact Option.isNone_eq_false_iff.mpr ha
    have ends : s.advanceSlot.boundaryDue b = [] := by
      rw [State.boundaryDue, ready.closesWindow, hc]
      rfl
    rw [State.handTick, State.appliesEarly, looks, Bool.false_and, if_neg Bool.false_ne_true, ends, State.firstTakings, first,
      ← lapsed]
    simp only [if_true, Bool.false_eq_true, if_false, List.append_nil]
    rfl
  · rw [cause.loader, wloader, heartbeatTick_loader, loader]
  · rw [takeFailSafe_carrier, State.isCapacity, record]
    rfl
  · rw [cause.held, wchanges.held, beat.held, clock.held]
    rfl
  · rw [cause.timer, wslot, beat.timer, windowTick_timer, clockTick_timer]
    rfl
  · obtain ⟨grants, made⟩ := takeFailSafe_addsGrants w .heartbeatLapsed
    exact ⟨grants, by rw [made, wdue, List.nil_append]⟩

/-- Settles O50. -/
theorem heartbeatLapseResult : Obligations.HeartbeatLapseResult := by
  refine ⟨fun s rest h => ?_, fun s o n hd first awake ha hc timer reached => ?_⟩
  · refine ⟨State.takeHeartbeatLapse { s with due := rest }, ?_, rfl, rfl, rfl,
      (dropDue_changes s rest).seq (takeHeartbeatLapse_changes _)⟩
    rw [exec, execHeartbeatLapse, takeNamed_found h]
    rfl
  · obtain ⟨v, handed, loader, record, held, slot, grants, due⟩ :=
      handTick_lapsed (decide (s.timer.state = .locked)) hd first ha hc timer reached
    let t := (v.slotsTick (decide (s.timer.state = .locked)) []).arbiterTick
    have slots := slotsTick_changes v (decide (s.timer.state = .locked)) []
    have last := arbiterTick_changes (v.slotsTick (decide (s.timer.state = .locked)) [])
    have values : ∀ c, (v.carrier c).values = (s.carrier c).values := fun c => by
      rw [record]
      split
      · rw [woken_values]
      · rfl
    have carrier : ∀ c, t.carrier c = (v.carrier c).tick (if s.timer.state = .locked ∧ (s.carrier c).values.present = true
        then some (retiredSlot (s.held c) (s.timer.slot + 1)) else none) := fun c => by
      rw [last.carrier, slotsTick_carrier, values, held, slot]
      simp only [decide_eq_true_eq]
    have brought : ∀ d ∈ t.due, (∃ g, d = .grant g) ∨ d = .spacingExpiry
        ∨ ∃ a r' slot, d ∈ carrierDue v.globals a (v.carrier a) r' slot := by
      intro d hm
      rw [arbiterTick_due, slotsTick_due, due] at hm
      simp only [List.mem_append, List.mem_map, List.mem_flatMap, List.mem_ite_nil_right, List.mem_singleton] at hm
      obtain (⟨g, -, rfl⟩ | ⟨a, -, made⟩) | ⟨-, rfl⟩ := hm
      · exact .inl ⟨g, rfl⟩
      · exact .inr (.inr ⟨a, _, _, made⟩)
      · exact .inr (.inl rfl)
    have awakeAt : ∀ c, s.isCapacity c = true → (v.carrier c).state.sleeping = false := fun c hcap => by
      rw [record, if_pos hcap, woken_awake]
    have none : ∀ c, s.isCapacity c = true → ∀ d, (d = .drainDeadline c ∨ d = .beaconStarved c ∨ ∃ beacon, d = .drainConfirmed c beacon) →
        d ∉ t.due := by
      intro c hcap d named hm
      obtain ⟨g, rfl⟩ | rfl | ⟨a, r', slot, made⟩ := brought d hm
      · simp at named
      · simp at named
      · obtain rfl := carrierDue_own made named
        obtain rfl | rfl := awake_carrierDue (awakeAt a hcap) made <;> simp at named
    refine ⟨t, ?_, ?_, fun c => ?_, fun c hcap => ⟨?_, none c hcap _ (.inl rfl), none c hcap _ (.inr (.inl rfl)),
      fun beacon => none c hcap _ (.inr (.inr ⟨beacon, rfl⟩))⟩, fun hm => ?_, ?_⟩
    · rw [exec_externalTick hd (.inl awake), beginsTick_unlocked awake, Bool.or_false, handed]
    · rw [last.loader, slots.loader, loader]
    · rw [carrier, ← record]
      exact tick_ticked _ _
    · rw [carrier, tick_state]
      exact awakeAt c hcap
    · obtain ⟨g, e⟩ | e | ⟨a, r', slot, made⟩ := brought _ hm
      · cases e
      · cases e
      · obtain ⟨-, ⟨u, -, -, e⟩ | ⟨-, -, e⟩⟩ | ⟨-, -, -, e⟩ | ⟨-, -, e⟩ | ⟨-, -, e⟩ := mem_carrierDue.mp made <;> cases e
    · have changes := takeExternalTick_changes s false o
      rw [takeExternalTick_eq (.inl awake), beginsTick_unlocked awake, Bool.or_false, handed] at changes
      exact changes

end Sys2Proof.Machine
end

section
/-! PROOF. TICK_LOSS (O20): what the takings of the first local tick keep, in whatever order they come. -/

namespace Sys2Proof.Machine

/-! ### What every taking of a tick keeps -/

/-- A property that every taking of a tick keeps, by whichever block and in whatever order. -/
structure TickTakings (P : State → Prop) : Prop where
  clockTick : ∀ s : State, P s → P s.clockTick
  windowTick : ∀ (s : State) (b : Bool), P s → P (s.windowTick b)
  heartbeatTick : ∀ s : State, P s → P s.heartbeatTick
  slotsTick : ∀ (s : State) (b : Bool) (fresh : List Carrier), P s → P (s.slotsTick b fresh)
  arbiterTick : ∀ s : State, P s → P s.arbiterTick
  settleAtOnce : ∀ s : State, P s → P s.settleAtOnce
  failSafe : ∀ (s : State) (f : FailSafe), P s → P (s.takeFailSafe f)
  lapseTaken : ∀ s : State, P s → P { s with due := s.due.erase (.failSafe .heartbeatLapsed) }
  takeGeneration : ∀ s : State, P s → P s.takeGeneration
  brought : ∀ (s : State) (l : List Due), P s → P { s with due := s.due ++ l }

theorem TickTakings.handTick {P : State → Prop} (hP : TickTakings P) {s : State} (b : Bool) (o : TickOrder) (hs : P s) :
    P (s.handTick b o) := by
  have counted := hP.heartbeatTick _ (hP.windowTick _ b (hP.clockTick s hs))
  have first : ∀ sw aw lf, P (s.firstTakings b sw aw lf) := fun sw aw lf => by
    rw [State.firstTakings]
    generalize (s.clockTick.windowTick b).heartbeatTick = u at counted
    have early : P u.takeEarlyLapse := by
      rw [State.takeEarlyLapse]
      split
      · exact hP.failSafe _ _ (hP.lapseTaken _ (hP.settleAtOnce u counted))
      · exact counted
    have lapsed := ite_keeps (q := lf = true) early counted
    have slots := ite_keeps (q := sw = true) lapsed (hP.slotsTick _ b [] lapsed)
    exact ite_keeps slots (hP.arbiterTick _ slots)
  rw [State.handTick]
  split
  · refine hP.brought _ _ ?_
    rw [State.lateTakings]
    have looked := hP.takeGeneration _ (hP.settleAtOnce _ (first o.slotsLate o.arbiterLate o.lapseFirst))
    generalize State.takeGeneration _ = t at looked
    have slots := fun fresh => ite_keeps (q := o.slotsLate = true) (hP.slotsTick t b fresh looked) looked
    exact ite_keeps (hP.arbiterTick _ (slots _)) (slots _)
  · exact hP.brought { s.firstTakings b false false o.lapseFirst with due := _ } _ (hP.brought _ _ (first _ _ _))

/-! ### The holdover generator -/

/-- In HOLDOVER the next local tick is one slot length on (R32). -/
def GeneratorRuns (s : State) : Prop := s.timer.state = .holdover ∧ s.timer.holdover = some s.slotLength

theorem slotLength_congr {s t : State} (h : t.loader.applied = s.loader.applied) : t.slotLength = s.slotLength := by
  rw [State.slotLength.eq_def, State.slotLength.eq_def, h]

theorem GeneratorRuns.congr {s t : State} (state : t.timer.state = s.timer.state) (holdover : t.timer.holdover = s.timer.holdover)
    (applied : t.loader.applied = s.loader.applied) (hs : GeneratorRuns s) : GeneratorRuns t :=
  ⟨state.trans hs.1, by rw [holdover, hs.2, slotLength_congr applied]⟩

theorem GeneratorRuns.of_same {s t : State} (timer : t.timer = s.timer) (loader : t.loader = s.loader) (hs : GeneratorRuns s) :
    GeneratorRuns t := hs.congr (by rw [timer]) (by rw [timer]) (by rw [loader])

theorem readied_generator (s : State) (w : Policy) :
    (s.readied w).timer.state = s.timer.state ∧ (s.readied w).timer.holdover = s.timer.holdover := by
  have timer : (s.readied w).timer = (s.beginWindows.evaluatorTakes (clampPolicy w)).timer := by
    show (((s.beginWindows.evaluatorTakes (clampPolicy w)).install (clampPolicy w)).takeRing (clampPolicy w)).timer = _
    rw [(takeRing_onlyReport _ _).timer]
    rfl
  have begins : s.beginWindows.timer.state = s.timer.state ∧ s.beginWindows.timer.holdover = s.timer.holdover := by
    rw [State.beginWindows]
    split <;> exact ⟨rfl, rfl⟩
  have takes : ∀ u : State, (u.evaluatorTakes (clampPolicy w)).timer.state = u.timer.state
      ∧ (u.evaluatorTakes (clampPolicy w)).timer.holdover = u.timer.holdover := fun u => by
    rw [State.evaluatorTakes.eq_def]
    dsimp only
    split
    · exact ⟨rfl, rfl⟩
    · split <;> exact ⟨rfl, rfl⟩
  rw [timer]
  exact ⟨(takes _).1.trans begins.1, (takes _).2.trans begins.2⟩

/-- An application of a new slot length restarts the generator with it (R32). -/
theorem GeneratorRuns.timerTakes {u : State} {before : Nat} (state : u.timer.state = .holdover)
    (runs : u.timer.holdover = some before) : GeneratorRuns (u.timerTakes before) := by
  rw [State.timerTakes.eq_def, state]
  dsimp only
  split
  · next same => exact ⟨state, by rw [runs, same]⟩
  · exact ⟨state, rfl⟩

theorem GeneratorRuns.takeGeneration {s : State} (hs : GeneratorRuns s) : GeneratorRuns s.takeGeneration := by
  rw [State.takeGeneration]
  split
  · split
    · exact hs.congr rfl rfl rfl
    · rw [applyGeneration_eq]
      obtain ⟨state, holdover⟩ := readied_generator s (readPolicy s.loader.mirror)
      generalize s.readied (readPolicy s.loader.mirror) = r at state holdover
      have timer := (controllerTakes_changes r (clampPolicy (readPolicy s.loader.mirror))).timer
      generalize r.controllerTakes (clampPolicy (readPolicy s.loader.mirror)) = u at timer
      have taken : GeneratorRuns (u.timerTakes s.slotLength) :=
        .timerTakes (by rw [timer, state, hs.1]) (by rw [timer, holdover, hs.2])
      have beat := heartbeatTakes_changes (u.timerTakes s.slotLength)
      exact taken.congr (by rw [(beat _ _).timer]) (by rw [(beat _ _).timer]) (by rw [heartbeatTakes_loader])
  · exact hs

theorem GeneratorRuns.takeAtOnce {s : State} (d : Due) (hs : GeneratorRuns s) : GeneratorRuns (s.takeAtOnce d) := by
  cases d with
  | clockSecond => exact hs.congr rfl rfl rfl
  | drainConfirmed c b => exact hs.of_same (takeDrainConfirmed_changes s c b).timer (takeDrainConfirmed_changes s c b).loader
  | drainDeadline c => exact hs.of_same (takeDrainDeadline_changes s c).timer (takeDrainDeadline_changes s c).loader
  | beaconStarved c => exact hs.of_same (takeBeaconStarved_changes s c).timer (takeBeaconStarved_changes s c).loader
  | heartbeatLapse => exact hs.congr rfl rfl rfl
  | readyNotice | warmupExpiry | spacingExpiry | boundary | generation | verdicts | grant | demand | failSafe | tickLoss =>
    exact hs

theorem generatorRuns_takings : TickTakings GeneratorRuns where
  clockTick s hs := hs.congr (by rw [clockTick_timer]) (by rw [clockTick_timer]) (by rw [(clockTick_changes s).loader])
  windowTick s b hs := hs.congr (by rw [windowTick_timer]) (by rw [windowTick_timer]) (by rw [(windowTick_changes s b).loader])
  heartbeatTick s hs := hs.congr (by rw [(heartbeatTick_changes s).timer]) (by rw [(heartbeatTick_changes s).timer])
    (by rw [heartbeatTick_loader])
  slotsTick s b fresh hs := hs.of_same (slotsTick_changes s b fresh).timer (slotsTick_changes s b fresh).loader
  arbiterTick s hs := hs.of_same (arbiterTick_changes s).timer (arbiterTick_changes s).loader
  settleAtOnce s hs := foldl_keeps (P := GeneratorRuns) (fun _ d ht => ht.takeAtOnce d) _ (hs.congr rfl rfl rfl)
  failSafe s f hs := hs.of_same (takeFailSafe_changes s f).timer (takeFailSafe_changes s f).loader
  lapseTaken _ hs := hs.congr rfl rfl rfl
  takeGeneration _ hs := hs.takeGeneration
  brought _ _ hs := hs.congr rfl rfl rfl

/-! ### The cause left outstanding -/

/-- The HOLDOVER cause is outstanding. -/
def CauseWaits (s : State) : Prop := .failSafe .holdover ∈ s.due

theorem CauseWaits.of_append {s t : State} {l : List Due} (h : t.due = s.due ++ l) (hs : CauseWaits s) : CauseWaits t := by
  rw [CauseWaits, h]
  exact List.mem_append_left _ hs

theorem CauseWaits.of_due {s t : State} (h : t.due = s.due) (hs : CauseWaits s) : CauseWaits t := by
  rw [CauseWaits, h]
  exact hs

theorem CauseWaits.takeAtOnce {s : State} (d : Due) (hs : CauseWaits s) : CauseWaits (s.takeAtOnce d) := by
  cases d with
  | clockSecond => exact hs
  | drainConfirmed c b => exact hs.of_due (takeDrainConfirmed_changes s c b).due
  | drainDeadline c => exact hs.of_due (takeDrainDeadline_changes s c).due
  | beaconStarved c => exact hs.of_due (takeBeaconStarved_changes s c).due
  | heartbeatLapse => exact hs.of_append rfl
  | readyNotice | warmupExpiry | spacingExpiry | boundary | generation | verdicts | grant | demand | failSafe | tickLoss =>
    exact hs

theorem causeWaits_takings : TickTakings CauseWaits where
  clockTick s hs := hs.of_append (clockTick_due s)
  windowTick s b hs := hs.of_due (windowTick_due s b)
  heartbeatTick s hs := hs.of_append (heartbeatTick_due s)
  slotsTick s b fresh hs := hs.of_append (slotsTick_due s b fresh)
  arbiterTick s hs := hs.of_append (arbiterTick_due s)
  settleAtOnce s hs := foldl_keeps (P := CauseWaits) (fun _ d ht => ht.takeAtOnce d) _ (List.mem_filter.mpr ⟨hs, rfl⟩)
  failSafe s f hs := (takeFailSafe_addsGrants s f).mem hs
  lapseTaken s hs := (List.mem_erase_of_ne (by simp)).mpr hs
  takeGeneration s hs := by
    obtain ⟨l, hl, -⟩ := takeGeneration_due s
    exact hs.of_append hl
  brought _ _ hs := hs.of_append rfl

/-! ### The sleepers -/

/-- No carrier drains or sleeps that did not in an earlier state. -/
def SleepsOnlyFrom (s t : State) : Prop := ∀ c : Carrier, (t.carrier c).state.sleeping = true → (s.carrier c).state.sleeping = true

namespace SleepsOnlyFrom

variable {s t u : State}

theorem refl (s : State) : SleepsOnlyFrom s s := fun _ => id

theorem trans (h : SleepsOnlyFrom s t) (k : SleepsOnlyFrom t u) : SleepsOnlyFrom s u := fun c hc => h c (k c hc)

theorem of_frame {l : List Part} (h : OnlyChanges s t l) (hl : Part.controller ∉ l := by decide) : SleepsOnlyFrom s t :=
  fun c hc => by rwa [h.carrier c hl] at hc

theorem transition {c : Carrier} {st : CarrierState} (k : Cause) (q : Option WakeClass)
    (h : st.sleeping = true → (s.carrier c).state.sleeping = true) : SleepsOnlyFrom s (s.transition c st k q) := by
  intro d hd
  rw [transition_carrier] at hd
  split at hd
  · next e =>
    subst e
    rw [enter_state] at hd
    exact h hd
  · exact hd

theorem setCarrier {c : Carrier} {r : CarrierRecord} (h : r.state = (s.carrier c).state) : SleepsOnlyFrom s (s.setCarrier c r) := by
  intro d hd
  rw [carrier_setCarrier] at hd
  split at hd
  · next e =>
    subst e
    rwa [h] at hd
  · exact hd

theorem takeFailSafe (s : State) (f : FailSafe) : SleepsOnlyFrom s (s.takeFailSafe f) := by
  intro c hc
  rw [takeFailSafe_carrier] at hc
  split at hc
  · rw [woken_awake] at hc
    cases hc
  · exact hc

theorem takeDrainConfirmed (s : State) (c : Carrier) (b : Bool) : SleepsOnlyFrom s (s.takeDrainConfirmed c b) := by
  rw [State.takeDrainConfirmed]
  split
  · next h => exact (transition _ _ fun _ => by rw [h]; rfl).trans (setCarrier rfl)
  all_goals exact refl s

theorem takeDrainDeadline (s : State) (c : Carrier) : SleepsOnlyFrom s (s.takeDrainDeadline c) := by
  rw [State.takeDrainDeadline]
  split
  · exact (transition (st := .on) _ _ nofun).trans (setCarrier rfl)
  all_goals exact refl s

theorem takeBeaconStarved (s : State) (c : Carrier) : SleepsOnlyFrom s (s.takeBeaconStarved c) := by
  rw [State.takeBeaconStarved]
  split
  · exact transition _ _ nofun
  all_goals exact refl s

theorem takeAtOnce (s : State) (d : Due) : SleepsOnlyFrom s (s.takeAtOnce d) := by
  cases d with
  | drainConfirmed c b => exact takeDrainConfirmed s c b
  | drainDeadline c => exact takeDrainDeadline s c
  | beaconStarved c => exact takeBeaconStarved s c
  | clockSecond => exact refl s
  | heartbeatLapse => exact fun _ => id
  | readyNotice | warmupExpiry | spacingExpiry | boundary | generation | verdicts | grant | demand | failSafe | tickLoss =>
    exact refl s

theorem slotsTick (s : State) (b : Bool) (fresh : List Carrier) : SleepsOnlyFrom s (s.slotsTick b fresh) := by
  intro c hc
  rwa [slotsTick_carrier, tick_state] at hc

theorem takeGeneration (s : State) : SleepsOnlyFrom s s.takeGeneration := by
  rw [State.takeGeneration]
  split
  · split
    · exact of_frame (refuseGeneration_changes s _ _)
    · next h => exact fun c hc => ((applyGeneration_appliedAt h).sleeping hc).2
  · exact refl s

theorem takeGrant (s : State) (c : Carrier) : SleepsOnlyFrom s (s.takeGrant c) := by
  rw [State.takeGrant]
  split
  · have warming : SleepsOnlyFrom s (s.transition c .warming .grant none) := transition _ _ nofun
    have ended : ∀ t : State, SleepsOnlyFrom t (t.endWarmup c .on .ready) := fun t d hd => by
      rw [endWarmup_eq, (attempt_changes _).carrier, endedWarmup_carrier] at hd
      split at hd
      · cases hd
      · exact hd
    exact ite_keeps (warming.trans (ended _)) warming
  all_goals exact refl s

theorem takings (s : State) : TickTakings (SleepsOnlyFrom s) where
  clockTick t ht := ht.trans (of_frame (clockTick_changes t))
  windowTick t b ht := ht.trans (of_frame (windowTick_changes t b))
  heartbeatTick t ht := ht.trans (of_frame (heartbeatTick_changes t))
  slotsTick t b fresh ht := ht.trans (slotsTick t b fresh)
  arbiterTick t ht := ht.trans (of_frame (arbiterTick_changes t))
  settleAtOnce t ht := foldl_keeps (P := SleepsOnlyFrom s) (fun u d hu => hu.trans (takeAtOnce u d)) _ ht
  failSafe t f ht := ht.trans (takeFailSafe t f)
  lapseTaken _ ht := ht
  takeGeneration t ht := ht.trans (takeGeneration t)
  brought _ _ ht := ht

end SleepsOnlyFrom

/-! ### Grants settled -/

/-- Nothing but grants is outstanding. -/
def OnlyGrants (s : State) : Prop := ∀ d ∈ s.due, ∃ c, d = .grant c

theorem OnlyGrants.of_added {s t : State} (hs : OnlyGrants s) (h : AddsGrants s t) : OnlyGrants t := by
  obtain ⟨l, hl⟩ := h
  intro d hd
  rw [hl] at hd
  obtain hd | hd := List.mem_append.mp hd
  · exact hs d hd
  · obtain ⟨c, -, rfl⟩ := List.mem_map.mp hd
    exact ⟨c, rfl⟩

theorem OnlyGrants.takeGrant {s : State} (hs : OnlyGrants s) (c : Carrier) : OnlyGrants (s.takeGrant c) := by
  rw [State.takeGrant]
  split
  · have warming : OnlyGrants (s.transition c .warming .grant none) := hs.of_added (.of_due (transition_changes s c _ _ _).due)
    have ended : ∀ t : State, OnlyGrants t → OnlyGrants (t.endWarmup c .on .ready) := fun t ht => by
      rw [endWarmup_eq]
      refine OnlyGrants.of_added (fun d hd => ?_) (attempt_addsGrants _)
      rw [endedWarmup_due] at hd
      exact ht d (List.mem_filter.mp hd).1
    exact ite_keeps (ended _ warming) warming
  all_goals exact hs

/-- What the taking of grants changes, and that it puts no carrier to sleep. -/
def GrantsTaken (s t : State) : Prop :=
  OnlyGrants t ∧ SleepsOnlyFrom s t ∧ OnlyChanges s t [.controller, .evaluator, .report, .arbiter, .due]

theorem takeSteps_grants {s : State} (hs : OnlyGrants s) (wait : Bool) (n : Nat) :
    GrantsTaken s (takeSteps (nextDue wait) n s) := by
  refine takeSteps_keeps (P := GrantsTaken s) (fun t d rest h ht => ?_) n ⟨hs, .refl s, .refl _ _⟩
  obtain ⟨grants, sleeps, changes⟩ := ht
  obtain ⟨which, picked⟩ := nextDue_picks h
  obtain ⟨c, rfl⟩ := grants d ((firstDue_perm picked).subset List.mem_cons_self)
  have left : OnlyGrants { t with due := rest } := fun d hd => grants d (firstDue_rest picked hd)
  refine ⟨left.takeGrant c, sleeps.trans (SleepsOnlyFrom.takeGrant { t with due := rest } c), ?_⟩
  exact changes.seq ((dropDue_changes t rest).seq (takeGrant_changes _ c) (n := [.controller, .evaluator, .report, .arbiter, .due]))

/-! ### The DRAINs taken first -/

theorem takeSteps_nothing {next : List Due → Option (Due × List Due)} {s : State} (h : next s.due = none) (n : Nat) :
    takeSteps next n s = s := by
  cases n with
  | zero => rfl
  | succ n => rw [takeSteps, h]

/-- Where no event may bring a DRAIN none is taken. -/
theorem takeDrains_of_none {s : State} (h : ∀ d ∈ s.due, d.mayDrain = false) : s.takeDrains = s :=
  takeSteps_nothing (firstDue_none h) _

theorem applyVerdict_values (s : State) (v : Verdict) (c : Carrier) : ((s.applyVerdict v).carrier c).values = (s.carrier c).values := by
  have moved : ∀ st k, ((s.transition v.carrier st k none).carrier c).values = (s.carrier c).values := fun st k => by
    rw [transition_carrier]
    split
    · next e => rw [enter_values, e]
    · rfl
  have whole : ∀ t : State, (t.carrier c).values = (s.carrier c).values →
      ∀ q : Bool, ((if q = true then t else s).carrier c).values = (s.carrier c).values := fun t ht q => by
    split
    · exact ht
    · rfl
  rw [State.applyVerdict]
  split
  · exact whole _ (moved _ _) _
  · exact whole _ (moved _ _) _
  · exact moved _ _
  · exact moved _ _
  · rw [queueCarrier_carrier]
    split
    · next e => rw [e]
    · rfl
  · rfl

theorem takeVerdicts_values (s : State) (fresh : Bool) (list : List Verdict) (c : Carrier) :
    ((s.takeVerdicts fresh list list.length).carrier c).values = (s.carrier c).values := by
  rw [takeVerdicts_all _ _ _ (Nat.le_refl _)]
  refine foldl_keeps (P := fun t => (t.carrier c).values = (s.carrier c).values) (fun t v ht => (applyVerdict_values t v c).trans ht) _ ?_
  rw [beforeVerdicts_carrier]
  split <;> rfl

/-- The taking of the events that may bring a DRAIN keeps the values of every carrier. -/
theorem takeDrains_values (s : State) (c : Carrier) : (s.takeDrains.carrier c).values = (s.carrier c).values := by
  refine takeSteps_keeps (P := fun t => (t.carrier c).values = (s.carrier c).values) (fun t d rest h ht => ?_) _ rfl
  have drains := firstDue_picks h
  refine Eq.trans ?_ ht
  cases d with
  | boundary w clean locked =>
    rw [State.takeDue, (takeBoundary_changes _ w clean).carrier]
    rfl
  | verdicts fresh list => exact takeVerdicts_values { t with due := rest } fresh list c
  | _ => cases drains

end Sys2Proof.Machine
end

section
/-! PROOF. TICK_LOSS (O20): the entry to HOLDOVER, the cause in its place, and the first local tick. -/

namespace Sys2Proof.Machine

section Loss

variable (s : State) (cause : HoldoverOrder) (wait : Bool) (o : TickOrder)

/-- The cause in its place leaves the state HOLDOVER and the slot. -/
theorem holdoverCause_stands : (s.enterHoldover.takeHoldoverCause cause wait).timer.slot = s.timer.slot
    ∧ (s.enterHoldover.takeHoldoverCause cause wait).timer.state = .holdover :=
  (timerStands_stable s.timer.slot .holdover).takeHoldoverCause (fun _ h => h.2) cause wait ⟨rfl, enterHoldover_state s⟩

/-- No list holds an entry after the flush. -/
theorem holdoverCause_held (c : Carrier) :
    ((s.enterHoldover.takeHoldoverCause cause wait).takeLocalTick o).held c = [] := by
  refine List.eq_nil_iff_forall_not_mem.mpr fun h hm => ?_
  have stands := timerStands_stable s.timer.slot .holdover
  have flushed : Retired h.tag s.enterHoldover := fun d g hg => by
    have none : s.enterHoldover.held d = [] := held_flushAll s d
    rw [none] at hg
    cases hg
  have caused := ((retired_stable h.tag).and stands).takeHoldoverCause (fun _ k => k.2.2) cause wait
    ⟨flushed, rfl, enterHoldover_state s⟩
  have ticked := (retired_stable h.tag).handTick (s := (s.enterHoldover.takeHoldoverCause cause wait).beginsLocal) false o caused.1
  exact ticked c h hm rfl

end Loss

theorem TickReady.of_due {s v x : State} (h : TickReady v x) (k : OnlyChanges s v [.due]) : TickReady s x := by
  have timer := k.timer
  exact ⟨k.seq h.others, by rw [h.ticks, timer], by rw [h.number, timer], by rw [h.seconds, timer], by rw [h.clockSet, timer],
    by rw [h.subSecond, timer], by rw [h.nightHold, timer]⟩

/-- The cause taken, or handed on and taken first, with nothing else outstanding. -/
theorem takeHoldoverCause_alone {u : State} {cause : HoldoverOrder} (hd : u.due = []) (hc : cause ≠ .afterLocalTick) (wait : Bool) :
    ∃ n, u.takeHoldoverCause cause wait = takeSteps (nextDue wait) n (u.takeFailSafe .holdover) := by
  have drained : u.takeDrains = u := takeDrains_of_none (by simp [hd])
  rw [State.takeHoldoverCause.eq_def]
  dsimp only
  rw [drained]
  cases cause with
  | beforeOutstanding => exact ⟨_, rfl⟩
  | afterOutstanding =>
    have handed : (u.addDue (.failSafe .holdover)).due = [.failSafe .holdover] := by rw [State.addDue, hd]; rfl
    have next : nextDue wait [.failSafe .holdover] = some (.failSafe .holdover, []) := by cases wait <;> rfl
    have cleared : { u.addDue (.failSafe .holdover) with due := [] } = u := by rw [← hd]; rfl
    refine ⟨303, ?_⟩
    show takeSteps (nextDue wait) (4 * (u.addDue (.failSafe .holdover)).due.length + 300) _ = _
    rw [handed, show 4 * [Due.failSafe .holdover].length + 300 = 303 + 1 from rfl, takeSteps, handed, next]
    dsimp only
    rw [cleared]
    rfl
  | afterLocalTick => exact absurd rfl hc

/-- With nothing outstanding the cause, in its place, touches neither the timer nor the Policy Loader. -/
theorem takeHoldoverCause_quiet {u : State} (hd : u.due = []) (cause : HoldoverOrder) (wait : Bool) :
    OnlyChanges u (u.takeHoldoverCause cause wait) [.controller, .evaluator, .report, .arbiter, .due] := by
  by_cases hc : cause = .afterLocalTick
  · subst hc
    rw [State.takeHoldoverCause.eq_def]
    dsimp only
    rw [takeDrains_of_none (by simp [hd]), settle_nothing hd]
    exact (dropDue_changes u _).mono (by decide)
  · obtain ⟨n, e⟩ := takeHoldoverCause_alone hd hc wait
    have grants : OnlyGrants (u.takeFailSafe .holdover) :=
      OnlyGrants.of_added (s := u) (by simp [OnlyGrants, hd]) (takeFailSafe_addsGrants u _)
    rw [e]
    exact (takeFailSafe_changes u .holdover).seq (takeSteps_grants grants wait n).2.2

/-- Taken with nothing else outstanding the cause has woken every sleeper, and none sleeps after the first local tick. -/
theorem takeHoldoverCause_wakes {u : State} {cause : HoldoverOrder} (hd : u.due = []) (hc : cause ≠ .afterLocalTick) (wait : Bool)
    (o : TickOrder) {c : Carrier} (capacity : u.isCapacity c = true) :
    (((u.takeHoldoverCause cause wait).takeLocalTick o).carrier c).state.sleeping = false := by
  obtain ⟨n, e⟩ := takeHoldoverCause_alone hd hc wait
  have grants : OnlyGrants (u.takeFailSafe .holdover) :=
    OnlyGrants.of_added (s := u) (by simp [OnlyGrants, hd]) (takeFailSafe_addsGrants u _)
  have settled := (takeSteps_grants grants wait n).2.1
  rw [← e] at settled
  generalize u.takeHoldoverCause cause wait = v at settled
  have ticked : SleepsOnlyFrom v (v.takeLocalTick o) := (SleepsOnlyFrom.takings v).handTick false o (SleepsOnlyFrom.refl v)
  by_contra sleeps
  have woken := settled c (ticked c (by simpa using sleeps))
  rw [takeFailSafe_carrier, if_pos capacity, woken_awake] at woken
  cases woken

/-- Settles O20. -/
theorem tickLossEntersHoldover : Obligations.TickLossEntersHoldover := by
  intro s cause o hq
  refine ⟨fun hs => ?_, fun hs => ?_⟩
  · let u := s.enterHoldover
    let v := u.takeHoldoverCause cause o.handedWait
    have entered := enterHoldover_changes s
    have taken : exec (.tickLoss cause o) s = .next (v.takeLocalTick o) := by
      rw [exec, execTickLoss, settleAtOnce_quiet hq]
      cases hst : s.timer.state with
      | unsynced => rfl
      | locked => rfl
      | holdover => exact absurd hst hs
    obtain ⟨slot, state⟩ := holdoverCause_stands s cause o.handedWait
    have law : HoldoverUnless False (v.takeLocalTick o) :=
      (HoldoverUnless.takes False).takeLocalTick o (takeHoldoverCause_law s cause o.handedWait)
    have runs : GeneratorRuns (v.takeLocalTick o) := generatorRuns_takings.handTick false o (s := v.beginsLocal) ⟨state, rfl⟩
    have drains : ∀ d ∈ u.takeDrains.due, d.mayDrain = false := takeDrains_none u
    have capacity : ∀ c, u.takeDrains.isCapacity c = s.isCapacity c := fun c => by
      rw [State.isCapacity, takeDrains_values, entered.carrier]
      rfl
    refine ⟨u, rfl, fun c => held_flushAll s c, rfl, entered, v, v.takeLocalTick o, taken, rfl, fun h => takeDrains_of_none ?_, drains,
      (holdoverLaw_iff _).mpr law, ?_, ?_, ?_, runs.1, runs.2, holdoverCause_held s cause o.handedWait o, ?_, fun hd => ⟨?_, ?_, ?_, ?_⟩⟩
    · rwa [entered.due]
    · rintro rfl
      refine ⟨rfl, fun c => ?_⟩
      rw [takeFailSafe_carrier, capacity]
    · rintro rfl
      rfl
    · rintro rfl
      refine ⟨rfl, causeWaits_takings.handTick false o (s := v.beginsLocal) ?_⟩
      exact List.mem_append_right _ (List.mem_singleton.mpr rfl)
    · exact ((entered.mono (by decide)).trans (takeHoldoverCause_changes u cause o.handedWait)).trans (takeLocalTick_changes v o)
    · have stands := (handTick_timer v.beginsLocal false o).1
      exact stands.trans (congrArg (· + 1) slot)
    · intro ha hc
      have quiet := takeHoldoverCause_quiet (u := u) hd cause o.handedWait
      have ready : TickReady v v.beginsLocal := beginsLocal_ready v
      have loader : v.loader = s.loader := quiet.loader.trans entered.loader
      have ticks : v.timer.windowTicks = s.timer.windowTicks := by rw [quiet.timer]; rfl
      have applied : v.beginsLocal.clockTick.loader.applied.isSome = true := by
        rw [(clockTick_changes _).loader, ready.others.loader, loader]
        exact ha
      have within : v.beginsLocal.clockTick.closesWindow = false := by
        rw [clockTick_closesWindow, ready.closesWindow, State.closesWindow, loader, ticks, globals_congr loader]
        exact hc
      obtain ⟨-, -, clean⟩ := (handTick_keeps v.beginsLocal false o).window.window
        (by rw [(windowTick_changes _ false).loader]; exact applied)
      exact clean.trans (by rw [windowTick_within _ false applied within, Bool.and_false])
    · intro hc c hcap
      exact takeHoldoverCause_wakes (u := u) hd hc o.handedWait o hcap
    · rintro rfl hp
      have handed : v = u.addDue (.failSafe .holdover) := by
        show u.takeHoldoverCause .afterLocalTick o.handedWait = _
        rw [State.takeHoldoverCause.eq_def]
        dsimp only
        rw [takeDrains_of_none (by simp [show u.due = [] from hd]), settle_nothing (s := u) hd]
      have due : v.due = [.failSafe .holdover] := by
        rw [handed]
        exact congrArg (· ++ [Due.failSafe .holdover]) hd
      have steady : OnlyChanges u v [.due] := handed ▸ dropDue_changes u _
      have begins := beginsLocal_changes v
      have timer : v.timer = u.timer := steady.timer
      have ready : TickReady u v.beginsLocal := (beginsLocal_ready v).of_due steady
      have plain : PlainTick u o := by
        rw [PlainTick, entered.loader, State.closesWindow, entered.loader, globals_congr entered.loader]
        exact hp
      have ticked := handTick_unlocked ready (steady.seq begins) (congrArg (fun t : SlotTimer => t.slot + 1) timer)
        (by rw [show v.beginsLocal.due = v.due from rfl, due]; simp [Due.ofTick]) plain
      rwa [show v.beginsLocal.due = v.due from rfl, due] at ticked
  · rw [exec, execTickLoss, settleAtOnce_quiet hq]
    simp only [hs]

end Sys2Proof.Machine
end

section
/-! PROOF. What an application does carrier after carrier (O46): the records handed, the entries made and the parameters kept. -/

namespace Sys2Proof.Machine

/-! ### What the takings at carriers keep of the Load Evaluator -/

/-- The Load Evaluator keeps its parameters and the window that it has evaluated last. -/
structure EvaluatorKept (s t : State) : Prop where
  params : t.evaluator.params = s.evaluator.params
  pendingParams : t.evaluator.pendingParams = s.evaluator.pendingParams
  lastEvaluated : t.evaluator.lastEvaluated = s.evaluator.lastEvaluated

namespace EvaluatorKept

theorem of_eq {s t : State} (h : t.evaluator = s.evaluator) : EvaluatorKept s t := ⟨by rw [h], by rw [h], by rw [h]⟩

theorem refl (s : State) : EvaluatorKept s s := .of_eq rfl

theorem trans {s t u : State} (h : EvaluatorKept s t) (k : EvaluatorKept t u) : EvaluatorKept s u :=
  ⟨k.params.trans h.params, k.pendingParams.trans h.pendingParams, k.lastEvaluated.trans h.lastEvaluated⟩

theorem setFigures (s : State) (c : Carrier) (f : Figures) : EvaluatorKept s (s.setFigures c f) := ⟨rfl, rfl, rfl⟩

theorem transition (s : State) (c : Carrier) (st : CarrierState) (k : Cause) (q : Option WakeClass) :
    EvaluatorKept s (s.transition c st k q) := by
  rw [State.transition]
  split <;> exact ⟨rfl, rfl, rfl⟩

theorem queueCarrier (s : State) (c : Carrier) (k : Cause) (q : WakeClass) : EvaluatorKept s (s.queueCarrier c k q) :=
  (transition s c .queued k (some q)).trans (.of_eq (enqueue_changes _ c q).evaluator)

theorem applyCarrier (s : State) (c : Carrier) (b : Bool) : EvaluatorKept s (s.applyCarrier c b) := by
  have arrive : EvaluatorKept s (s.arrive c) := by
    rw [State.arrive]
    exact ite_keeps ((setFigures s c _).trans (queueCarrier _ c _ _)) ((setFigures s c _).trans (transition _ c _ _ _))
  have withdraw : EvaluatorKept s (s.withdraw c) := (transition s c _ _ _).trans (setFigures _ c _)
  rw [State.applyCarrier]
  split
  · exact ite_keeps arrive (refl s)
  · exact ite_keeps withdraw (ite_keeps (.of_eq (readyLost_changes s c).evaluator) (refl s))
  · exact ite_keeps withdraw (queueCarrier s c _ _)
  all_goals exact refl s

theorem controllerTakes (s : State) (p : Policy) : EvaluatorKept s (s.controllerTakes p) := by
  rw [State.controllerTakes]
  refine trans (foldl_keeps (P := EvaluatorKept s) (fun t c ht => ht.trans (applyCarrier t c _)) carriers ?_)
    (.of_eq (attempt_changes _).evaluator)
  exact .of_eq rfl

end EvaluatorKept

/-! ### The anchor of a sector -/

/-- A generation that passes validation has one anchor in a sector at most (R141). -/
theorem anchor_unique {s : State} {w : Policy} (h : validate s w = none) {k : Nat} {a b : Carrier}
    (ha : AnchorIn (clampPolicy w) k a) (hb : AnchorIn (clampPolicy w) k b) : a = b := by
  obtain ⟨-, -, checked, -⟩ := validate_eq_none.mp h
  rw [checkAnchors, Option.map_eq_none_iff, List.find?_eq_none] at checked
  have sector : k ∈ sectors := by
    obtain ⟨present, rfl, -⟩ := ha
    simpa using sector_of_valid h (by simpa using present)
  have member : a ∈ w.members k := by
    obtain ⟨present, same, -⟩ := ha
    exact mem_members.mpr ⟨by simpa using present, by simpa using same⟩
  have one := checked k sector
  have inhabited : (w.members k).isEmpty = false := by
    rw [List.isEmpty_eq_false_iff_exists_mem]
    exact ⟨a, member⟩
  simp only [inhabited, Bool.not_false, Bool.true_and, bne_iff_ne, ne_eq, not_not] at one
  obtain ⟨only, hl⟩ := List.length_eq_one_iff.mp one
  have mem : ∀ {d}, AnchorIn (clampPolicy w) k d → d = only := fun hd => by
    have := mem_anchors.mpr hd
    rw [clampPolicy_anchors, hl] at this
    exact List.mem_singleton.mp this
  exact (mem ha).trans (mem hb).symm

end Sys2Proof.Machine
end

section
/-! PROOF. The records that an application hands and the entries that it makes, carrier after carrier (O46, R11 to R16). -/

namespace Sys2Proof.Machine

/-! ### The loss of a ready line -/

/-- The present capacity carriers in the sector of a carrier (R16). -/
def State.beside (s : State) (a d : Carrier) : Bool := s.isCapacity d && (s.carrier d).values.sector == (s.carrier a).values.sector

section ReadyLost

variable (s : State) (a : Carrier)

/-- A carrier that is no anchor faulted leaves who stands beside. -/
theorem beside_faulted (t : State) (d : Carrier) (hv : ∀ c, (t.carrier c).values = (s.carrier c).values) :
    (t.isCapacity d && (t.carrier d).values.sector == (s.carrier a).values.sector) = s.beside a d := by
  rw [State.beside, State.isCapacity, State.isCapacity, hv]

theorem transition_values (st : CarrierState) (k : Cause) (q : Option WakeClass) (c : Carrier) :
    ((s.transition a st k q).carrier c).values = (s.carrier c).values := by
  rw [transition_carrier]
  split
  · next e => rw [enter_values, e]
  · rfl

/-- A ready line lost hands the record of its carrier, and those of an anchor's sector (R15, R16). -/
theorem readyLost_report : (s.readyLost a).report = s.report.handAll s
    (.stateChange a (s.carrier a).state .faulted .readyLost none
      :: if s.isAnchor a = true then wakeBodies s (s.beside a) .anchorLost .urgent else []) := by
  have faulted := transition_handed s a .faulted .readyLost none
  have values := transition_values s a .faulted .readyLost none
  rw [State.readyLost, handAll_cons]
  split
  · next anchor =>
    have timer := (transition_changes s a .faulted .readyLost none).timer
    rw [State.cascade, wakeAll_report _ _ _ _ fun t e hv _ => by rw [State.isCapacity, State.isCapacity, hv],
      handAll_timer _ _ timer, faulted]
    simp only [beside_faulted s a _ _ values]
    exact congrArg (ReportUnit.handAll _ s) (wakeBodies_beside anchor (s.carrier a).values.sector .anchorLost .urgent).1
  · rw [faulted]; rfl

/-- A ready line lost makes entries for the carriers in DEEP of an anchor's sector (R16). -/
theorem readyLost_entered : Entered s (s.readyLost a) (if s.isAnchor a = true then deepOf s (s.beside a) else []) := by
  have faulted : Entered s (s.transition a .faulted .readyLost none) [] :=
    (transition_sameAtArbiter s a .readyLost none (by simp)).entered (transition_changes s a _ _ _).due
  rw [State.readyLost]
  split
  · next anchor =>
    have values := transition_values s a .faulted .readyLost none
    have deep := (wakeBodies_beside anchor (s.carrier a).values.sector .anchorLost .urgent).2
    have woken := (wakeAll_entered (s.transition a .faulted .readyLost none)
      (fun t d => t.isCapacity d && (t.carrier d).values.sector == (s.carrier a).values.sector) .anchorLost .urgent
      fun t e hv _ => by rw [State.isCapacity, State.isCapacity, hv]).1
    simp only [beside_faulted s a _ _ values] at woken
    have made : deepOf (s.transition a .faulted .readyLost none) (fun d => s.beside a d) = deepOf s (s.beside a) := deep
    rw [made] at woken
    exact faulted.trans woken
  · exact faulted

/-- A carrier withdrawn makes no entry (R13). -/
theorem withdraw_entered : Entered s (s.withdraw a) [] := by
  have moved := transition_changes s a .absent .policy none
  have arbiter : (s.withdraw a).arbiter = s.arbiter := moved.arbiter
  have due : (s.withdraw a).due = s.due := moved.due
  exact ⟨transition_values s a .absent .policy none, globals_congr moved.loader, by rw [arbiter]; rfl, [],
    by simp [arbiter, due, newKeys]⟩

end ReadyLost

/-! ### The cascade of a lost anchor -/

/-- No carrier stands beside two lost anchors. -/
def LostApart (s : State) (p : Policy) : Prop :=
  ∀ a b c, anchorLost s p a = true → anchorLost s p b = true → capacityBeside p a c = true → capacityBeside p b c = true → a = b

theorem lostApart_of_valid {s : State} {w : Policy} (h : validate s w = none) : LostApart s (clampPolicy w) := by
  intro a b c ha hb hac hbc
  simp only [anchorLost, newlyLost, capacityBeside, Bool.and_eq_true, beq_iff_eq] at ha hb hac hbc
  exact anchor_unique h (k := ((clampPolicy w).entries.get c).sector) ⟨ha.1.1.1.1.2, hac.2.symm, ha.2⟩
    ⟨hb.1.1.1.1.2, hbc.2.symm, hb.2⟩

/-- The body that a carrier taken alone by the application makes in the cascade. -/
theorem appliedAlone_wakeBody {s : State} {p : Policy} {c : Carrier} (present : (p.entries.get c).present = true) (k : Cause) :
    (appliedAlone s p c).wakeBody c k .urgent =
      if policyQueued s p c = true then some (.stateChange c .queued .queued k (some .urgent))
      else (s.carrier c).wakeBody c k .urgent := by
  rw [appliedAlone, policyQueued]
  cases hs : (s.carrier c).state
  case absent =>
    cases hq : (p.entries.get c).sensing && !s.readyLevel c <;>
      simp [present, hq, hs, CarrierRecord.enter, CarrierRecord.wakeBody, WakeClass.rank]
  case on =>
    cases newlyLost s p c <;> simp [present, hs, CarrierRecord.enter, CarrierRecord.wakeBody]
  case faulted => simp [present, CarrierRecord.enter, CarrierRecord.wakeBody, WakeClass.rank]
  all_goals simp [hs, CarrierRecord.wakeBody]

namespace AppliedAt

variable {s u : State} {p : Policy} {done : List Carrier} {a : Carrier} (h : AppliedAt s p done u) (hd : ∀ c, c ∈ done ↔ c < a)
  (apart : LostApart s p)

section Cascade

variable (lost : anchorLost s p a = true)
include h hd apart lost

/-- A carrier beside a lost anchor is found as the application alone has left it, or not reached by it yet. -/
theorem found_beside {c : Carrier} (hc : capacityBeside p a c = true) :
    u.carrier c = if c < a then appliedAlone s p c else { s.carrier c with values := p.entries.get c } := by
  have unwoken : cascaded s p done c = false := by
    simp only [cascaded, List.any_eq_false, Bool.and_eq_true]
    rintro b hb ⟨⟨hbl, hbc⟩, -⟩
    obtain rfl := apart a b c lost hbl hc hbc
    exact absurd ((hd a).mp hb) (lt_irrefl a)
  simp only [h.records, appliedRecord, unwoken, hd, Bool.false_eq_true, if_false]

theorem cascade_body {c : Carrier} (hc : capacityBeside p a c = true) :
    (u.carrier c).wakeBody c .anchorLost .urgent = cascadeBody s p a c := by
  have present : (p.entries.get c).present = true := by
    simp only [capacityBeside, Bool.and_eq_true] at hc; exact hc.1.1
  rw [h.found_beside hd apart lost hc, cascadeBody]
  split
  · rw [appliedAlone_wakeBody present]
  · split
    · next queued =>
      simp only [policyQueued, present, Bool.true_and, Bool.or_eq_true, Bool.and_eq_true, beq_iff_eq] at queued
      obtain faulted | ⟨⟨absent, -⟩, -⟩ := queued
      · simp [CarrierRecord.wakeBody, faulted]
      · simp [CarrierRecord.wakeBody, absent]
    · rfl

theorem cascade_deep {c : Carrier} (hc : capacityBeside p a c = true) : (u.carrier c).state = .deep ↔ (s.carrier c).state = .deep := by
  rw [h.found_beside hd apart lost hc]
  split
  · rw [appliedAlone_state]
    cases hs : (s.carrier c).state <;> simp only [reduceCtorEq, iff_false]
    all_goals split_ifs <;> simp
  · rfl

end Cascade

include h

theorem beside_eq : u.beside a = capacityBeside p a := by
  funext c
  simp only [State.beside, State.isCapacity, h.values, capacityBeside]

include hd apart

/-- The records and the entries of a ready line lost at an application (R14, R16). -/
theorem lost_taken (hl : newlyLost s p a = true) :
    (u.readyLost a).report = u.report.handAll u (applicationBodies s p a)
      ∧ Entered u (u.readyLost a) (applicationEntries s p a) := by
  have lost := hl
  simp only [newlyLost, Bool.and_eq_true, beq_iff_eq] at hl
  obtain ⟨⟨⟨⟨hs, stays⟩, -⟩, -⟩, -⟩ := hl
  have found : (u.carrier a).state = .on := by
    rw [h.records, (appliedRecord_next (fun c hc => (hd c).mp hc) (by rw [hs]; rfl)).1, hs]
  have unqueued : policyQueued s p a = false := by simp [policyQueued, hs]
  have anchor : u.isAnchor a = anchorLost s p a := by simp [State.isAnchor, h.values, anchorLost, lost, stays]
  have bodies := readyLost_report u a
  have entered := readyLost_entered u a
  rw [h.beside_eq, anchor] at bodies entered
  rw [found] at bodies
  by_cases hla : anchorLost s p a = true
  · have handed : wakeBodies u (capacityBeside p a) .anchorLost .urgent
        = (carriers.filter (capacityBeside p a)).filterMap (cascadeBody s p a) :=
      List.filterMap_congr fun c hc => h.cascade_body hd apart hla (List.mem_filter.mp hc).2
    have deep : deepOf u (capacityBeside p a) = deepOf s (capacityBeside p a) := by
      refine List.filter_congr fun c _ => ?_
      by_cases hc : capacityBeside p a c = true
      · have := h.cascade_deep hd apart hla hc
        rw [Bool.eq_iff_iff]
        simp [this]
      · simp [hc]
    rw [handed, if_pos hla] at bodies
    rw [deep, if_pos hla] at entered
    rw [applicationBodies, applicationEntries]
    refine ⟨?_, by simpa [hla] using entered⟩
    simp [unqueued, hs, stays, lost, hla, bodies]
  · rw [if_neg hla] at bodies entered
    rw [applicationBodies, applicationEntries]
    simp [unqueued, hs, stays, lost, hla, bodies, entered]

/-- The records and the entries of the application at the next carrier. -/
theorem taken (same : (s.carrier a).state.busy = true → SameStructure (s.carrier a).values (p.entries.get a)) :
    (u.applyCarrier a (s.carrier a).values.sensing).report = u.report.handAll u (applicationBodies s p a)
      ∧ Entered u (u.applyCarrier a (s.carrier a).values.sensing) (applicationEntries s p a) := by
  have below : ∀ c ∈ done, c < a := fun c hc => (hd c).mp hc
  have next : ∀ {st}, (s.carrier a).state = st → st.busy = false → (u.carrier a).state = st := fun hs hb => by
    rw [h.records, (appliedRecord_next below (by rw [hs]; exact hb)).1, hs]
  have unlost : (s.carrier a).state ≠ .on → anchorLost s p a = false := fun hs => anchorLost_of_not_on (newlyLost_state hs)
  rw [h.applyCarrier_eq below same]
  split
  · next hs =>
    obtain ⟨absent, present⟩ := hs
    have found : (State.carrier (u.setFigures a .arriving) a).state = .absent := next absent rfl
    have figured : Entered u (u.setFigures a .arriving) [] := 
      SameAtArbiter.entered (s := u) (t := u.setFigures a .arriving) ⟨fun _ => rfl, fun _ => rfl, rfl, rfl⟩ rfl
    have lost := unlost (by simp [absent])
    rw [State.arrive]
    have senses : ((u.setFigures a .arriving).carrier a).values = p.entries.get a := h.values a
    have level : (u.setFigures a .arriving).readyLevel a = s.readyLevel a := h.ready a
    rw [senses, level]
    split
    · next low =>
      have queued : policyQueued s p a = true := by
        simp only [Bool.and_eq_true] at low
        simp [policyQueued, absent, present, low]
      refine ⟨?_, ?_⟩
      · rw [State.queueCarrier, (enqueue_changes _ _ _).report, transition_handed, found]
        simp [applicationBodies, queued, absent]
        rfl
      · simp only [applicationEntries, lost, queued]
        exact figured.trans (queueCarrier_entered _ a .policy .routine).1
    · next high =>
      have unqueued : policyQueued s p a = false := by simpa [policyQueued, absent, present] using high
      refine ⟨?_, ?_⟩
      · rw [transition_handed, found]
        simp [applicationBodies, unqueued, absent, present]
        rfl
      · simp only [applicationEntries, lost, unqueued]
        exact figured.trans ((transition_sameAtArbiter _ a .policy none (.inl rfl)).entered (transition_changes _ a _ _ _).due)
  · next arrives =>
    split
    · next hs =>
      obtain ⟨st, gone⟩ := hs
      have unqueued : policyQueued s p a = false := by simp [policyQueued, gone]
      have lost : newlyLost s p a = false := by simp [newlyLost, gone]
      have found : (u.carrier a).state = (s.carrier a).state := next rfl (by obtain st | st := st <;> rw [st] <;> rfl)
      refine ⟨?_, ?_⟩
      · show (u.transition a .absent .policy none).report = _
        rw [transition_handed, found]
        simp [applicationBodies, unqueued, st, gone]
      · simp only [applicationEntries, anchorLost_of_not_on lost, unqueued]
        exact withdraw_entered u a
    · next stays =>
      split
      · next faulted =>
        have present : (p.entries.get a).present = true := by simpa [faulted] using stays
        have queued : policyQueued s p a = true := by simp [policyQueued, faulted, present]
        refine ⟨?_, ?_⟩
        · rw [State.queueCarrier, (enqueue_changes _ _ _).report, transition_handed, next faulted rfl]
          simp [applicationBodies, queued, faulted]
        · simp only [applicationEntries, unlost (by simp [faulted]), queued]
          exact (queueCarrier_entered u a .policy .routine).1
      · next unfaulted =>
        have unqueued : policyQueued s p a = false := by
          rw [policyQueued]
          cases hp : (p.entries.get a).present
          · rfl
          · have : (s.carrier a).state ≠ .absent := fun e => arrives ⟨e, hp⟩
            simp [unfaulted, this]
        split
        · next hl => exact h.lost_taken hd apart hl
        · next hl =>
          refine ⟨?_, ?_⟩
          · simp only [applicationBodies, unqueued, arrives, stays, hl]
            rfl
          · simp only [applicationEntries, anchorLost_of_not_on (by simpa using hl), unqueued]
            exact (SameAtArbiter.refl u).entered rfl

omit hd in
/-- The application at all carriers: its records, in their order, and its entries (R11). -/
theorem all_taken {rest : List Carrier} (hl : done ++ rest = carriers)
    (same : ∀ c, (s.carrier c).state.busy = true → SameStructure (s.carrier c).values (p.entries.get c)) :
    (rest.foldl (fun t c => t.applyCarrier c (s.carrier c).values.sensing) u).report
        = u.report.handAll u (rest.flatMap (applicationBodies s p))
      ∧ Entered u (rest.foldl (fun t c => t.applyCarrier c (s.carrier c).values.sensing) u)
        (rest.flatMap (applicationEntries s p)) := by
  induction rest generalizing done u with
  | nil => exact ⟨rfl, (SameAtArbiter.refl u).entered rfl⟩
  | cons a rest ih =>
    obtain ⟨report, entered⟩ := h.taken (mem_before hl) apart (same a)
    have timer := (applyCarrier_changes u a (s.carrier a).values.sensing).timer
    obtain ⟨later, more⟩ := ih (h.next (mem_before hl) (same a)) (by simpa using hl)
    refine ⟨?_, ?_⟩
    · rw [List.foldl_cons, later, report, handAll_timer _ _ timer, List.flatMap_cons, handAll_append]
    · rw [List.foldl_cons, List.flatMap_cons]
      exact entered.trans more

end AppliedAt

/-- The application at the Carrier Controller as a whole, and the attempt it ends in (R11, R134). -/
theorem controllerTakes_taken {s : State} {w : Policy} (valid : validate s w = none) :
    ((s.readied w).controllerTakes (clampPolicy w)).report
        = (s.readied w).report.handAll (s.readied w) (carriers.flatMap (applicationBodies s (clampPolicy w)))
      ∧ EnteredSettled ((s.readied w).copyValues (clampPolicy w)) ((s.readied w).controllerTakes (clampPolicy w))
        (carriers.flatMap (applicationEntries s (clampPolicy w))) := by
  have readied := readied_changes s w
  obtain ⟨report, entered⟩ := (readied_appliedAt s w).all_taken (lostApart_of_valid valid) (rest := carriers) rfl
    (fun c hb => sameStructure_of_busy valid hb)
  rw [State.controllerTakes]
  simp only [readied.carrier]
  exact ⟨(attempt_changes _).report.trans report, entered.attempt⟩

end Sys2Proof.Machine
end

section
/-! PROOF. What an application leaves of every block but the Carrier Controller's (O46, R145). -/

namespace Sys2Proof.Machine

/-! ### The Slot Timer and the Load Evaluator -/

/-- The Slot Timer and the Load Evaluator where no generation had been applied (R35, R87). -/
theorem readied_first {s : State} (w : Policy) (first : s.loader.applied = none) :
    (s.readied w).timer = { s.timer with windowNumber := 1, windowTicks := 0, clean := true }
      ∧ (s.readied w).evaluator = { s.evaluator with
          params := some { w := (clampPolicy w).globals.w, k := (clampPolicy w).globals.k, entries := (clampPolicy w).entries }
          pendingParams := none } := by
  have begun : s.beginWindows = { s with timer := { s.timer with windowNumber := 1, windowTicks := 0, clean := true } } := by
    rw [State.beginWindows, first]; rfl
  have ring := takeRing_onlyReport ((s.beginWindows.evaluatorTakes (clampPolicy w)).install (clampPolicy w)) (clampPolicy w)
  refine ⟨ring.timer.trans ?_, ring.evaluator.trans ?_⟩
  · show (s.beginWindows.evaluatorTakes (clampPolicy w)).timer = _
    rw [begun, State.evaluatorTakes.eq_def]
    simp only [first]
  · show (s.beginWindows.evaluatorTakes (clampPolicy w)).evaluator = _
    rw [begun, State.evaluatorTakes.eq_def]
    simp only [first]

/-- The Slot Timer and the Load Evaluator where a generation had been applied: the new parameters at once, or kept back beside
the night values in force (R40, R87). -/
theorem readied_again {s : State} (w : Policy) (again : s.loader.applied.isSome = true) :
    (s.readied w).timer = { s.timer with
        nightHold := if s.evaluator.lastEvaluated = s.timer.windowNumber - 1 then s.timer.nightHold else some s.nightValues }
      ∧ (s.readied w).evaluator =
        (if s.evaluator.lastEvaluated = s.timer.windowNumber - 1 then
          { s.evaluator with
            params := some { w := (clampPolicy w).globals.w, k := (clampPolicy w).globals.k, entries := (clampPolicy w).entries }
            pendingParams := none }
        else
          { s.evaluator with
            pendingParams :=
              some { w := (clampPolicy w).globals.w, k := (clampPolicy w).globals.k, entries := (clampPolicy w).entries } }) := by
  obtain ⟨old, ho⟩ := Option.isSome_iff_exists.mp again
  have begun : s.beginWindows = s := by rw [State.beginWindows, ho]; rfl
  have ring := takeRing_onlyReport ((s.beginWindows.evaluatorTakes (clampPolicy w)).install (clampPolicy w)) (clampPolicy w)
  refine ⟨ring.timer.trans ?_, ring.evaluator.trans ?_⟩
  · show (s.beginWindows.evaluatorTakes (clampPolicy w)).timer = _
    rw [begun, State.evaluatorTakes.eq_def]
    simp only [ho]
    split <;> rfl
  · show (s.beginWindows.evaluatorTakes (clampPolicy w)).evaluator = _
    rw [begun, State.evaluatorTakes.eq_def]
    simp only [ho]
    split <;> rfl

/-- What an application leaves of a block that only the blocks before the Carrier Controller touch. -/
theorem applyGeneration_changes_late (s : State) (w : Policy) :
    OnlyChanges (s.readied w) (s.applyGeneration w) [.controller, .evaluator, .report, .arbiter, .due, .timer, .loader] := by
  rw [applyGeneration_eq]
  exact ((controllerTakes_changes _ _).seq (timerTakes_changes _ _)
    (n := [.controller, .evaluator, .report, .arbiter, .due, .timer])).seq (heartbeatTakes_changes _ _ _)

theorem applyGeneration_evaluator (s : State) (w : Policy) : EvaluatorKept (s.readied w) (s.applyGeneration w) := by
  rw [applyGeneration_eq]
  exact (EvaluatorKept.controllerTakes _ _).trans (.of_eq (((timerTakes_changes _ _).seq (heartbeatTakes_changes _ _ _)
    (n := [.timer, .due, .loader, .report])).evaluator))

theorem controllerTakes_slotLength (s : State) (w : Policy) :
    ((s.readied w).controllerTakes (clampPolicy w)).slotLength = slotLengthOf (clampPolicy w).globals.slotCode := by
  rw [State.slotLength, (controllerTakes_changes _ _).loader, readied_loader]

/-- The holdover generator takes a new slot length (R32). -/
theorem applyGeneration_timer (s : State) (w : Policy) : (s.applyGeneration w).timer =
    { (s.readied w).timer with
      holdover := if s.timer.state = .holdover ∧ slotLengthOf (clampPolicy w).globals.slotCode ≠ s.slotLength
        then some (slotLengthOf (clampPolicy w).globals.slotCode) else (s.readied w).timer.holdover } := by
  have timer := (controllerTakes_changes (s.readied w) (clampPolicy w)).timer
  have length := controllerTakes_slotLength s w
  have state : (s.readied w).timer.state = s.timer.state := (TakingKeeps.readied s w).timer.state
  rw [applyGeneration_eq, (heartbeatTakes_changes _ _ _).timer]
  generalize (s.readied w).controllerTakes (clampPolicy w) = v at timer length
  rw [State.timerTakes.eq_def, timer, state, length]
  cases hs : s.timer.state
  case holdover =>
    dsimp only
    split
    · next same => rw [timer]; simp [same]
    · next differs => simp [differs]
  all_goals
    simp only [reduceCtorEq, false_and, if_false]
    split <;> exact timer

/-- Tick loss is detected at once by a new slot length (R30). -/
theorem applyGeneration_due (s : State) (w : Policy) : (s.applyGeneration w).due =
    ((s.readied w).controllerTakes (clampPolicy w)).due
      ++ (if s.timer.state ≠ .holdover ∧ slotLengthOf (clampPolicy w).globals.slotCode ≠ s.slotLength
        ∧ 2 * slotLengthOf (clampPolicy w).globals.slotCode ≤ s.timer.lossTimer then [.tickLoss] else []) := by
  have timer := (controllerTakes_changes (s.readied w) (clampPolicy w)).timer
  have length := controllerTakes_slotLength s w
  have kept := (TakingKeeps.readied s w).timer
  rw [applyGeneration_eq, (heartbeatTakes_changes _ _ _).due]
  generalize (s.readied w).controllerTakes (clampPolicy w) = v at timer length
  rw [State.timerTakes.eq_def, timer, kept.state, length, kept.lossTimer]
  cases hs : s.timer.state
  case holdover => dsimp only; split <;> simp
  all_goals
    simp only [ne_eq, reduceCtorEq, not_false_eq_true, true_and]
    split
    · rfl
    · simp

/-! ### The Report Unit -/

/-- The Report Unit once the ring of a policy has been taken (R145, R146). -/
def State.shapedReport (s : State) (p : Policy) : ReportUnit :=
  if s.report.ring = some (ringOf p) then s.report else s.report.reshape (ringOf p) (mirrorConsumer s.loader.mirror)

/-- Records are headed by the window number, the seconds and the slot alone. -/
theorem handAll_header {s t : State} (u : ReportUnit) (l : List RecordBody) (window : t.timer.windowNumber = s.timer.windowNumber)
    (seconds : t.timer.seconds = s.timer.seconds) (slot : t.timer.slot = s.timer.slot) : u.handAll t l = u.handAll s l := by
  simp only [ReportUnit.handAll, State.makeRecord, window, seconds, slot]

theorem readied_report (s : State) (w : Policy) : (s.readied w).report =
    (s.shapedReport (clampPolicy w)).handAll (s.readied w)
      [.policyApplied (mirrorGeneration s.loader.mirror) (clampedNames w (clampPolicy w))] := by
  have before : OnlyChanges s ((s.beginWindows.evaluatorTakes (clampPolicy w)).install (clampPolicy w))
      [.timer, .evaluator, .loader] := by
    refine ((beginWindows_changes s).seq (evaluatorTakes_changes _ (clampPolicy w)) (n := [.timer, .evaluator, .loader])).trans ?_
    intro q hq; cases q <;> simp_all [SamePart, State.install]
  have mirror : ((s.beginWindows.evaluatorTakes (clampPolicy w)).install (clampPolicy w)).loader.mirror = s.loader.mirror := by
    show (s.beginWindows.evaluatorTakes (clampPolicy w)).loader.mirror = _
    rw [(evaluatorTakes_changes _ _).loader, (beginWindows_changes s).loader]
  have shaped : (((s.beginWindows.evaluatorTakes (clampPolicy w)).install (clampPolicy w)).takeRing (clampPolicy w)).report
      = s.shapedReport (clampPolicy w) := by
    rw [State.takeRing, State.shapedReport, before.report, mirror]
    split
    · exact before.report
    · rfl
  rw [← shaped]
  rfl

/-- The record of a lapse that a code of 0 ends (R148). -/
theorem heartbeatTakes_report (s : State) (old : Option Nat) (new : Nat) : (s.heartbeatTakes old new).report =
    s.report.handAll s
      (if old ≠ none ∧ old ≠ some 0 ∧ new = 0 ∧ s.loader.heartbeat = .lapsed then [.heartbeat .alive] else []) := by
  rw [State.heartbeatTakes.eq_def]
  split
  · simp
  · next o =>
    by_cases ho : o = 0
    · subst ho
      rw [if_pos rfl]
      split <;> simp
    · rw [if_neg ho]
      by_cases hn : new = 0
      · rw [if_pos hn]
        dsimp only
        by_cases lapsed : s.loader.heartbeat = .lapsed
        · rw [if_pos lapsed, if_pos (by simp [ho, hn, lapsed])]; rfl
        · rw [if_neg lapsed, if_neg (by simp [lapsed])]; rfl
      · rw [if_neg hn, if_neg (by simp [hn])]; rfl

/-- The heartbeat code of the policy before. -/
theorem heartbeatCode_before (s : State) (q : Prop) :
    (s.loader.applied.map (fun q => q.globals.heartbeatCode) ≠ none
      ∧ s.loader.applied.map (fun q => q.globals.heartbeatCode) ≠ some 0 ∧ q)
      ↔ s.loader.applied.isSome = true ∧ s.globals.heartbeatCode ≠ 0 ∧ q := by
  rw [State.globals]
  cases s.loader.applied <;> simp

/-- The records of an application, in the order handed (R11, R145, R148, R155). -/
theorem applyGeneration_report {s : State} {w : Policy} (valid : validate s w = none) : (s.applyGeneration w).report =
    (s.shapedReport (clampPolicy w)).handAll (s.applyGeneration w)
      (.policyApplied (mirrorGeneration s.loader.mirror) (clampedNames w (clampPolicy w))
        :: carriers.flatMap (applicationBodies s (clampPolicy w))
        ++ (if s.loader.applied.isSome = true ∧ s.globals.heartbeatCode ≠ 0 ∧ (clampPolicy w).globals.heartbeatCode = 0
            ∧ s.loader.heartbeat = .lapsed then [.heartbeat .alive] else [])) := by
  have taken := (controllerTakes_taken valid).1
  have first := readied_report s w
  have timer := applyGeneration_timer s w
  have window : (s.applyGeneration w).timer.windowNumber = (s.readied w).timer.windowNumber := by rw [timer]
  have seconds : (s.applyGeneration w).timer.seconds = (s.readied w).timer.seconds := by rw [timer]
  have slot : (s.applyGeneration w).timer.slot = (s.readied w).timer.slot := by rw [timer]
  have between := timerTakes_changes ((s.readied w).controllerTakes (clampPolicy w)) s.slotLength
  have last := heartbeatTakes_report (((s.readied w).controllerTakes (clampPolicy w)).timerTakes s.slotLength)
    (s.loader.applied.map fun q => q.globals.heartbeatCode) (clampPolicy w).globals.heartbeatCode
  have heartbeat : (((s.readied w).controllerTakes (clampPolicy w)).timerTakes s.slotLength).loader.heartbeat
      = s.loader.heartbeat := by
    rw [between.loader, (controllerTakes_changes _ _).loader, readied_loader]
  have stamped := congrArg State.timer (applyGeneration_eq s w)
  rw [(heartbeatTakes_changes _ _ _).timer] at stamped
  rw [← applyGeneration_eq, between.report, taken, first, heartbeat] at last
  simp only [heartbeatCode_before] at last
  rw [last, handAll_timer _ _ stamped.symm]
  simp only [handAll_header _ _ window seconds slot, handAll_append, handAll_cons, handAll_nil]

/-! ### The other blocks -/

theorem applyGeneration_transit (s : State) (w : Policy) : (s.applyGeneration w).transit =
    { s.transit with
      windows := windowTable s.transit.policyBase (clampPolicy w)
      scheduler := some (clampPolicy w).globals.scheduler, fronthaul := some (clampPolicy w).globals.fronthaul } := by
  have before : (((s.beginWindows.evaluatorTakes (clampPolicy w)).install (clampPolicy w)).takeRing (clampPolicy w)).transit
      = s.transit := by
    rw [(takeRing_onlyReport _ _).transit]
    show (s.beginWindows.evaluatorTakes (clampPolicy w)).transit = _
    rw [(evaluatorTakes_changes _ _).transit, (beginWindows_changes s).transit]
  rw [(applyGeneration_changes_late s w).transit, ← before]
  rfl

theorem applyGeneration_held (s : State) (w : Policy) (c : Carrier) : (s.applyGeneration w).held c =
    takeHeld (s.carrier c).values ((clampPolicy w).entries.get c) (s.held c) := by
  have before : OnlyChanges s (((s.beginWindows.evaluatorTakes (clampPolicy w)).install (clampPolicy w)).takeRing (clampPolicy w))
      [.timer, .evaluator, .loader, .report] := by
    refine OnlyChanges.seq (l := [.timer, .evaluator, .loader]) ?_ (takeRing_onlyReport _ _)
    refine ((beginWindows_changes s).seq (evaluatorTakes_changes _ (clampPolicy w)) (n := [.timer, .evaluator, .loader])).trans ?_
    intro q hq; cases q <;> simp_all [SamePart, State.install]
  rw [(applyGeneration_changes_late s w).held]
  refine (get_tabulate _ c).trans ?_
  exact congrArg₂ (fun r l => takeHeld (CarrierRecord.values r) _ l) (before.carrier c) (before.held c)

end Sys2Proof.Machine
end

section
/-! PROOF. A generation that passes validation, applied: what every block then holds (O46). -/

namespace Sys2Proof.Machine

/-! ### The blocks before the Carrier Controller -/

theorem windowTable_applied {s t : State} {p : Policy} (h : t.transit.windows = windowTable s.transit.policyBase p) :
    WindowsApplied s t p := by
  refine ⟨fun w => ?_, ?_⟩
  · simp only [h, windowTable, List.mem_append, List.mem_map, mem_presentCarriers, List.mem_cons, List.not_mem_nil, or_false]
    constructor
    · rintro (⟨c, hc, rfl⟩ | rfl | rfl)
      · exact .inr (.inr ⟨c, hc, rfl⟩)
      · exact .inl rfl
      · exact .inr (.inl rfl)
    · rintro (rfl | rfl | ⟨c, hc, rfl⟩)
      · exact .inr (.inl rfl)
      · exact .inr (.inr rfl)
      · exact .inl ⟨c, hc, rfl⟩
  · have indices : t.transit.windows.map Window.index = p.presentCarriers.map Fin.val ++ [24, 25] := by
      simp [h, windowTable, shapeWindow, policyWindow]
    rw [indices, List.nodup_append]
    refine ⟨(carriers_nodup.filter _).map Fin.val_injective, by decide, fun n hn m hm => ?_⟩
    obtain ⟨c, -, rfl⟩ := List.mem_map.mp hn
    simp only [List.mem_cons, List.not_mem_nil, or_false] at hm
    omega

theorem applyGeneration_heldApplied (s : State) (w : Policy) : HeldApplied s (s.applyGeneration w) (clampPolicy w) := by
  intro c
  rw [applyGeneration_held, takeHeld]
  refine ⟨fun h => if_pos ?_, fun hp ho hb hc => if_neg ?_⟩
  · obtain h | h | h | h := h
    · simp [h, -clampPolicy_entry]
    · simp [h]
    · simp [h.symm, -clampPolicy_entry]
    · simp [h.symm, -clampPolicy_entry]
  · simp [hp, ho, hb, hc, -clampPolicy_entry]

theorem applyGeneration_parametersApplied (s : State) (w : Policy) : ParametersApplied s (s.applyGeneration w) (clampPolicy w) := by
  have kept := applyGeneration_evaluator s w
  have hold : (s.applyGeneration w).timer.nightHold = (s.readied w).timer.nightHold := by rw [applyGeneration_timer]
  rw [ParametersApplied, kept.lastEvaluated, kept.params, kept.pendingParams, hold]
  cases ha : s.loader.applied with
  | none =>
    obtain ⟨timer, evaluator⟩ := readied_first w ha
    rw [timer, evaluator]
    exact ⟨rfl, fun _ => ⟨rfl, rfl, rfl⟩, nofun⟩
  | some old =>
    obtain ⟨timer, evaluator⟩ := readied_again w (s := s) (by rw [ha]; rfl)
    rw [timer, evaluator]
    refine ⟨by split <;> rfl, fun h => ?_, fun _ late => ?_⟩
    · have ended := h.resolve_left nofun
      simp only [if_pos ended, and_self]
    · simp only [if_neg late, true_and]
      refine ⟨fun none => ?_, fun some => ?_⟩
      · rw [State.nightValues, none]
      · obtain ⟨values, hv⟩ := Option.ne_none_iff_exists'.mp some
        rw [State.nightValues, hv]

theorem applyGeneration_timerApplied {s : State} {w : Policy} (valid : validate s w = none) :
    TimerApplied s (s.applyGeneration w) s.due (clampPolicy w) := by
  have timer := applyGeneration_timer s w
  have due := applyGeneration_due s w
  obtain ⟨⟨-, -, -, granted, entered, -⟩, -⟩ := (controllerTakes_taken valid).2
  have lost : .tickLoss ∈ (s.applyGeneration w).due ↔ .tickLoss ∈ s.due
      ∨ (s.timer.state ≠ .holdover ∧ slotLengthOf (clampPolicy w).globals.slotCode ≠ s.slotLength
        ∧ 2 * slotLengthOf (clampPolicy w).globals.slotCode ≤ s.timer.lossTimer) := by
    rw [due, entered, show ((s.readied w).copyValues (clampPolicy w)).due = s.due from (readied_changes s w).due]
    split
    · next h => simp [h]
    · next h => simp [h]
  rw [TimerApplied, timer]
  cases ha : s.loader.applied with
  | none =>
    rw [(readied_first w ha).1]
    exact ⟨fun _ => ⟨rfl, rfl, rfl⟩, nofun, rfl, rfl, rfl, rfl, rfl, rfl, rfl, lost⟩
  | some old =>
    rw [(readied_again w (s := s) (by rw [ha]; rfl)).1]
    exact ⟨nofun, fun _ => ⟨rfl, rfl, rfl⟩, rfl, rfl, rfl, rfl, rfl, rfl, rfl, lost⟩

/-! ### The records -/

/-- A ring just re-shaped takes a record (R152, R155). -/
theorem reshape_hand (u : ReportUnit) {ring : Ring} (c : BitVec 16) (r : Record) (room : 0 < ring.capacity) :
    ((u.reshape ring c).hand r).pending = [.ringRecord (u.reshape ring c).gap r] := by
  have admits : (u.reshape ring c).admits = true := by
    simp [ReportUnit.admits, ReportUnit.reshape, ReportUnit.unconsumed, ReportUnit.outstanding, ReportUnit.placesTaken,
      room, flagBit, Config.pendingLimit]
  rw [ReportUnit.hand, admits]
  simp [ReportUnit.reshape]

theorem ringCapacity_pos {s : State} {w : Policy} (valid : validate s w = none) : 0 < (clampPolicy w).globals.ringCapacity := by
  obtain ⟨-, -, -, -, -, ring, -⟩ := validate_eq_none.mp valid
  rw [checkRing] at ring
  split at ring
  · cases ring
  · next h =>
    simp only [Bool.or_eq_true, Bool.not_eq_true', decide_eq_true_eq, not_or, Bool.not_eq_false] at h
    obtain ⟨capacity, -⟩ := h
    show 0 < w.globals.ringCapacity
    simp only [ringCapacities, List.contains_iff_mem, List.mem_cons, List.not_mem_nil, or_false] at capacity
    omega

/-- The Report Unit of an application, as its records find it and leave it (R145, R150, R155). -/
theorem applyGeneration_ringApplied {s : State} (valid : validate s (readPolicy s.loader.mirror) = none) :
    RingApplied s (s.applyGeneration (readPolicy s.loader.mirror)) (clampPolicy (readPolicy s.loader.mirror)) := by
  have report := applyGeneration_report valid
  obtain ⟨first, again, -, slot, -, seconds, -⟩ := applyGeneration_timerApplied valid
  have room := ringCapacity_pos valid
  generalize ht : s.applyGeneration (readPolicy s.loader.mirror) = t at report first again slot seconds
  generalize hp : clampPolicy (readPolicy s.loader.mirror) = p at report room
  have window : t.timer.windowNumber = if s.loader.applied = none then 1 else s.timer.windowNumber := by
    cases ha : s.loader.applied with
    | none => exact (first ha).1
    | some q => exact (again (by rw [ha]; rfl)).1
  rw [List.cons_append, handAll_cons] at report
  have stamped : t.makeRecord t.timer.windowNumber
      (.policyApplied (mirrorGeneration s.loader.mirror) (clampedNames (readPolicy s.loader.mirror) p))
      = { window := if s.loader.applied = none then 1 else s.timer.windowNumber, seconds := s.timer.seconds
          slot := s.timer.slot
          body := .policyApplied (mirrorGeneration s.loader.mirror) (clampedNames (readPolicy s.loader.mirror) p) } := by
    rw [State.makeRecord, window, seconds, slot]
  rw [stamped] at report
  refine ⟨?_, ?_, _, rfl, fun differs => ?_, fun same => ?_⟩
  · rw [report, handAll_ring, reportHand_ring, State.shapedReport]
    split
    · assumption
    · rfl
  · rw [report, handAll_latch, reportHand_latch, State.shapedReport]
    split <;> rfl
  · rw [State.shapedReport, if_neg differs] at report
    obtain ⟨later, pending, -⟩ := handAll_pending (ReportUnit.hand (s.report.reshape (ringOf p) (mirrorConsumer s.loader.mirror)) _) t _
    rw [← report, reshape_hand _ _ _ room] at pending
    rw [report, handAll_producer, handAll_consumer, handAll_updateOwed, handAll_inFlightRecords, reportHand_producer,
      reportHand_consumer, reportHand_updateOwed, reportHand_inFlightRecords, ← report]
    exact ⟨rfl, rfl, rfl, rfl, later, pending⟩
  · rw [State.shapedReport, if_pos same] at report
    obtain ⟨later, pending, -⟩ := handAll_pending (s.report.hand _) t _
    rw [← report] at pending
    rw [report, handAll_producer, handAll_consumer, handAll_updateOwed, handAll_inFlightRecords, reportHand_producer,
      reportHand_consumer, reportHand_updateOwed, reportHand_inFlightRecords, ← report]
    exact ⟨rfl, rfl, rfl, rfl, later, pending⟩

/-! ### The heartbeat -/

/-- What the heartbeat takes of a new code, by the code before (R148). -/
theorem heartbeatTakes_cases (s : State) (new : Nat) :
    ((s.heartbeatTakes none new).loader.heartbeat = .alive
        ∧ (s.heartbeatTakes none new).loader.heartbeatTimer = if new = 0 then none else some 0)
      ∧ (new ≠ 0 → (s.heartbeatTakes (some 0) new).loader.heartbeat = .alive
        ∧ (s.heartbeatTakes (some 0) new).loader.heartbeatTimer = some 0)
      ∧ (∀ old, old ≠ 0 → new = 0 → (s.heartbeatTakes (some old) new).loader.heartbeat = .alive
        ∧ (s.heartbeatTakes (some old) new).loader.heartbeatTimer = none)
      ∧ ∀ old, (old = 0 ↔ new = 0) → (s.heartbeatTakes (some old) new).loader = s.loader := by
  refine ⟨⟨rfl, rfl⟩, fun hn => ?_, fun old ho hn => ?_, fun old h => ?_⟩
  · simp [State.heartbeatTakes, hn]
  · simp only [State.heartbeatTakes, if_neg ho, if_pos hn]
    split <;> exact ⟨rfl, rfl⟩
  · by_cases ho : old = 0
    · simp only [State.heartbeatTakes, if_pos ho, if_pos (h.mp ho)]
    · simp only [State.heartbeatTakes, if_neg ho, if_neg (h.not.mp ho)]

theorem applyGeneration_heartbeatApplied {s : State} {w : Policy} (valid : validate s w = none) :
    HeartbeatApplied s (s.applyGeneration w) (clampPolicy w) := by
  have report := applyGeneration_report valid
  obtain ⟨-, again, -, slot, -, seconds, -⟩ := applyGeneration_timerApplied valid
  have loader : (((s.readied w).controllerTakes (clampPolicy w)).timerTakes s.slotLength).loader = (s.readied w).loader := by
    rw [(timerTakes_changes _ _).loader, (controllerTakes_changes _ _).loader]
  obtain ⟨first, into, out, left⟩ := heartbeatTakes_cases
    (((s.readied w).controllerTakes (clampPolicy w)).timerTakes s.slotLength) (clampPolicy w).globals.heartbeatCode
  have taken := applyGeneration_eq s w
  generalize State.timerTakes _ _ = v at loader first into out left taken
  generalize s.applyGeneration w = t at report again slot seconds taken
  rw [HeartbeatApplied]
  cases ha : s.loader.applied with
  | none =>
    rw [ha] at taken
    rw [taken]
    exact ⟨fun _ => first, nofun, nofun, nofun⟩
  | some old =>
    have code : s.globals = old.globals := by rw [State.globals, ha]
    rw [ha, Option.map_some] at taken
    rw [code]
    refine ⟨nofun, fun _ was enters => ?_, fun _ was leaves => ?_, fun _ same => ?_⟩
    · rw [taken, was]
      exact into enters
    · obtain ⟨alive, stopped⟩ := out _ was leaves
      rw [← taken] at alive stopped
      refine ⟨alive, stopped, fun lapsed => ?_⟩
      have stamped : t.makeRecord t.timer.windowNumber (.heartbeat .alive)
          = s.makeRecord s.timer.windowNumber (.heartbeat .alive) := by
        rw [State.makeRecord, State.makeRecord, (again (by rw [ha]; rfl)).1, seconds, slot]
      rw [handAll_append, if_pos ⟨by rw [ha]; rfl, by rw [code]; exact was, leaves, lapsed⟩,
        handAll_cons _ _ (.heartbeat .alive), handAll_nil, stamped] at report
      exact ⟨_, by rw [report, reportHand_ring], report⟩
    · have kept := left _ same
      rw [← taken, loader, readied_loader] at kept
      exact ⟨by rw [kept], by rw [kept]⟩

/-! ### The carriers -/

section Carriers

variable {s t : State} {p : Policy} (h : AppliedAt s p carriers t)
include h

/-- A wake of a lost anchor leaves the state of a carrier that does not sleep. -/
theorem AppliedAt.state_eq {c : Carrier} {st : CarrierState} (alone : (appliedAlone s p c).state = st) (awake : st.sleeping = false) :
    (t.carrier c).state = st := by
  rw [h.record]
  split
  · rw [woken_state, alone]
    cases st <;> simp_all [CarrierState.sleeping]
  · exact alone

theorem AppliedAt.carriersApplied : CarriersApplied s t p := by
  intro c
  have alone := appliedAlone_state s p c
  have figures := h.figures c
  simp only [appliedFigures, mem_carriers, true_and] at figures
  have beside : ∀ a, anchorLost s p a = true ↔ NewlyLost s p a ∧ (p.entries.get a).role = .anchor := fun a => by
    simp [anchorLost, NewlyLost]
  refine ⟨h.values c, fun absent present => ⟨?_, ?_⟩, fun absent gone => ?_, fun faulted present => ?_, fun st gone => ⟨?_, ?_⟩,
    fun lost => ?_, fun on present unlost => ?_, fun st => ?_, fun lost present capacity => ?_, fun slept unlost => ?_,
    fun there present => ?_⟩
  · refine h.state_eq ?_ (by split <;> rfl)
    rw [alone, absent]
    simp [present]
  · rw [figures, if_pos ⟨absent, present⟩]; rfl
  · refine h.state_eq ?_ rfl
    rw [alone, absent]
    simp [gone]
  · refine h.state_eq ?_ rfl
    rw [alone, faulted]
    simp [present]
  · refine h.state_eq ?_ rfl
    rw [alone]
    obtain st | st := st <;> rw [st] <;> simp [gone]
  · rw [figures, if_neg (by simp [gone]), if_pos ⟨st, gone⟩]
  · refine h.state_eq ?_ rfl
    have found := lost
    simp only [NewlyLost, newlyLost, Bool.and_eq_true, beq_iff_eq] at found
    obtain ⟨⟨⟨⟨on, present⟩, -⟩, -⟩, -⟩ := found
    rw [alone, on]
    simp only [present, Bool.not_true, Bool.false_eq_true, if_false]
    exact if_pos lost
  · refine h.state_eq ?_ rfl
    rw [alone, on]
    simp only [present, Bool.not_true, Bool.false_eq_true, if_false]
    exact if_neg unlost
  · refine h.state_eq ?_ (by obtain st | st := st <;> rw [st] <;> rfl)
    rw [alone]
    obtain st | st := st <;> rw [st]
  · by_contra sleeps
    obtain ⟨unwoken, slept⟩ := h.sleeping (c := c) (by simpa using sleeps)
    obtain ⟨a, newly, role, sector⟩ := lost
    have woken : cascaded s p carriers c = true := List.any_eq_true.mpr ⟨a, mem_carriers a, by
      simp [(beside a).mpr ⟨newly, role⟩, capacityBeside, present, capacity, sector, busy_of_sleeping slept]⟩
    rw [unwoken] at woken
    cases woken
  · have unwoken : cascaded s p carriers c = false := by
      rw [cascaded, List.any_eq_false]
      intro a _
      simp only [Bool.and_eq_true, not_and, and_imp]
      intro lost side
      obtain ⟨newly, role⟩ := (beside a).mp lost
      simp only [capacityBeside, Bool.and_eq_true, beq_iff_eq] at side
      exact absurd side.2.symm (unlost a newly role)
    rw [h.record, unwoken, appliedAlone_of_busy (busy_of_sleeping slept)]
    rfl
  · rw [figures, if_neg (fun e => there e.1), if_neg (by simp [present])]

theorem AppliedAt.classesApplied : ClassesApplied s t p := by
  refine ⟨fun c queued => ?_, fun c busy => ?_⟩
  · have found : (s.carrier c).state.busy = false ∧ (appliedAlone s p c).state = .queued
        ∧ (appliedAlone s p c).queuedClass = some .routine := by
      simp only [policyQueued, Bool.and_eq_true, Bool.or_eq_true, beq_iff_eq] at queued
      obtain ⟨present, faulted | ⟨⟨absent, senses⟩, low⟩⟩ := queued
      · simp [appliedAlone, faulted, present, CarrierRecord.enter, CarrierState.busy]
      · simp [appliedAlone, absent, present, senses, low, CarrierRecord.enter, CarrierState.busy]
    obtain ⟨idle, waits, routine⟩ := found
    have woken : ((appliedAlone s p c).woken .urgent).queuedClass = some .urgent := by
      simp [CarrierRecord.woken, waits, routine, WakeClass.rank]
    have cascade : cascaded s p carriers c
        = carriers.any (fun a => anchorLost s p a && capacityBeside p a c && decide (c < a)) := by
      simp only [cascaded, idle, Bool.false_or]
    rw [h.record, cascade]
    split
    · exact woken
    · exact routine
  · have busy : (s.carrier c).state.busy = true := by
      obtain h | h | h | h | h := busy <;> rw [h] <;> rfl
    have cascade : cascaded s p carriers c = carriers.any (fun a => anchorLost s p a && capacityBeside p a c) := by
      simp only [cascaded, busy, Bool.true_or, Bool.and_true]
    rw [h.record, cascade, appliedAlone_of_busy busy]
    split
    · rw [CarrierRecord.woken.eq_def, CarrierRecord.woken.eq_def]
      cases (s.carrier c).state <;> rfl
    · rfl

end Carriers

/-- What the Slot Timer and the heartbeat take last is no matter of the arbiter's. -/
theorem applyGeneration_sameAtArbiter (s : State) (w : Policy) :
    SameAtArbiter ((s.readied w).controllerTakes (clampPolicy w)) (s.applyGeneration w) := by
  rw [applyGeneration_eq]
  generalize (s.readied w).controllerTakes (clampPolicy w) = v
  have changes : OnlyChanges v ((v.timerTakes s.slotLength).heartbeatTakes
      (s.loader.applied.map (fun q => q.globals.heartbeatCode)) (clampPolicy w).globals.heartbeatCode)
      [.timer, .due, .loader, .report] := (timerTakes_changes _ _).seq (heartbeatTakes_changes _ _ _)
  refine ⟨fun c => by rw [changes.carrier], fun c => by rw [changes.carrier], ?_, changes.arbiter⟩
  rw [State.globals, State.globals, heartbeatTakes_loader, (timerTakes_changes _ _).loader]

/-- Settles O46, block by block: the blocks before the Carrier Controller, the carriers one after the other, the arbiter, and
what the Slot Timer and the heartbeat take last. -/
theorem generationApplied : Obligations.GenerationApplied := by
  intro s rest p quiet found staged valid hp
  subst hp
  let u : State := { s with due := rest }
  have looked : validate u (readPolicy u.loader.mirror) = none := valid
  have taken : u.takeGeneration = u.applyGeneration (readPolicy s.loader.mirror) := by
    rw [State.takeGeneration, if_pos (by exact staged), looked]
  have executed := exec_generation quiet found
  have changes : OnlyChanges s u.takeGeneration inner :=
    ((dropDue_changes s rest).mono (by decide)).trans (takeGeneration_changes u)
  have law : WakeLaw s → WakeLaw u.takeGeneration := wakeLaw_keeps fun law =>
    (law.congr (t := u) (fun _ => ⟨rfl, rfl⟩) rfl rfl rfl (grantsOutstanding_rest found rfl)).takeGeneration
  rw [taken] at changes law
  have loader := applyGeneration_loader u (readPolicy s.loader.mirror)
  have applied := applyGeneration_appliedAt looked
  have made := (controllerTakes_taken looked).2.entriesTaken (s := s) (readied_changes u _).arbiter (readied_changes u _).due
    (applyGeneration_sameAtArbiter u _) (applyGeneration_due u _) law
  have settled := (applyGeneration_sameAtArbiter u (readPolicy s.loader.mirror)).settled (attempt_settled _)
  have transit := applyGeneration_transit u (readPolicy s.loader.mirror)
  have ring := applyGeneration_ringApplied looked
  have held := applyGeneration_heldApplied u (readPolicy s.loader.mirror)
  have parameters := applyGeneration_parametersApplied u (readPolicy s.loader.mirror)
  have timer := applyGeneration_timerApplied looked
  have heartbeat := applyGeneration_heartbeatApplied looked
  have records := applyGeneration_report looked
  rw [executed, taken]
  generalize u.applyGeneration (readPolicy s.loader.mirror) = t at *
  generalize clampPolicy (readPolicy s.loader.mirror) = p at *
  have globals : t.globals = p.globals := by rw [State.globals, loader]
  refine ⟨t, rfl, ?_, ?_, ?_, ?_, transit, ring, held, parameters, applied.carriersApplied, timer, heartbeat,
    windowTable_applied (congrArg TransitPath.windows transit), records, ⟨made, globals, settled⟩, applied.classesApplied, changes⟩
  all_goals rw [loader]

end Sys2Proof.Machine
end

section
/-! PROOF. What the Load Evaluator has summed, and what leaves it as it is (O31): every event but a boundary, an application and a
tick. -/

namespace Sys2Proof.Machine

/-- A boundary or a look for a generation: the events that the Load Evaluator's sums have to do with. -/
def Due.ofWindow (d : Due) : Bool := isBoundary d || d == .generation

/-- The sums stand: a load may have been set to 16000 (R79), but what has been summed, the parameters, the values of the carriers,
the window in progress and the events at its end are the same. -/
structure SumsKept (s t : State) : Prop where
  figures : ∀ c, t.figures c = s.figures c ∨ t.figures c = (s.figures c).full
  evaluator : EvaluatorKept s t
  values : ∀ c, (t.carrier c).values = (s.carrier c).values
  applied : t.loader.applied = s.loader.applied
  window : t.timer.windowNumber = s.timer.windowNumber
  due : t.due.filter Due.ofWindow = s.due.filter Due.ofWindow

theorem AddsGrants.ofWindow {s t : State} (h : AddsGrants s t) : t.due.filter Due.ofWindow = s.due.filter Due.ofWindow := by
  obtain ⟨l, hl⟩ := h
  have none : (l.map Due.grant).filter Due.ofWindow = [] := by
    rw [List.filter_eq_nil_iff]
    intro d hd
    obtain ⟨c, -, rfl⟩ := List.mem_map.mp hd
    simp [Due.ofWindow, isBoundary]
  rw [hl, List.filter_append, none, List.append_nil]

/-- An event that is none of the window's is taken from the list without a trace there. -/
theorem firstDue_ofWindow {which : Due → Bool} {l : List Due} {d : Due} {rest : List Due} (h : firstDue which l = some (d, rest))
    (hd : d.ofWindow = false) : rest.filter Due.ofWindow = l.filter Due.ofWindow := by
  obtain ⟨-, before, after, rfl, rfl, -⟩ := firstDue_eq_some h
  rw [List.filter_append, List.filter_append, List.filter_cons_of_neg (by simp [hd])]

namespace SumsKept

variable {s t u : State}

theorem refl (s : State) : SumsKept s s := ⟨fun _ => .inl rfl, .refl s, fun _ => rfl, rfl, rfl, rfl⟩

theorem trans (h : SumsKept s t) (k : SumsKept t u) : SumsKept s u where
  figures c := by
    have full : ∀ f : Figures, f.full.full = f.full := fun _ => rfl
    obtain hc | hc := h.figures c <;> obtain kc | kc := k.figures c
    · exact .inl (kc.trans hc)
    · exact .inr (kc.trans (by rw [hc]))
    · exact .inr (kc.trans hc)
    · exact .inr (kc.trans (by rw [hc, full]))
  evaluator := h.evaluator.trans k.evaluator
  values c := (k.values c).trans (h.values c)
  applied := k.applied.trans h.applied
  window := k.window.trans h.window
  due := k.due.trans h.due

/-- What touches none of the blocks that the sums have to do with. -/
theorem of_frame {l : List Part} (h : OnlyChanges s t l)
    (hl : Part.evaluator ∉ l ∧ Part.controller ∉ l ∧ Part.loader ∉ l ∧ Part.timer ∉ l ∧ Part.due ∉ l := by decide) :
    SumsKept s t := by
  obtain ⟨he, hc, ho, ht, hd⟩ := hl
  exact ⟨fun c => .inl (h.figures c he), .of_eq (h.evaluator he), fun c => by rw [h.carrier c hc], by rw [h.loader ho],
    by rw [h.timer ht], by rw [h.due hd]⟩

/-- What changes the records of the carriers and hands on grants alone. -/
theorem of_grants {l : List Part} (h : OnlyChanges s t l) (values : ∀ c, (t.carrier c).values = (s.carrier c).values)
    (grants : AddsGrants s t) (hl : Part.evaluator ∉ l ∧ Part.loader ∉ l ∧ Part.timer ∉ l := by decide) : SumsKept s t := by
  obtain ⟨he, ho, ht⟩ := hl
  exact ⟨fun c => .inl (h.figures c he), .of_eq (h.evaluator he), values, by rw [h.loader ho], by rw [h.timer ht], grants.ofWindow⟩

theorem ite {v : State} {c : Prop} [Decidable c] (h : SumsKept s t) (k : SumsKept s v) : SumsKept s (if c then t else v) :=
  ite_keeps h k

theorem drop {which : Due → Bool} {d : Due} {rest : List Due} (h : firstDue which s.due = some (d, rest))
    (hd : d.ofWindow = false) : SumsKept s { s with due := rest } :=
  ⟨fun _ => .inl rfl, .of_eq rfl, fun _ => rfl, rfl, rfl, firstDue_ofWindow h hd⟩

section Operations

variable (s) (c : Carrier) (k : Cause) (q : WakeClass)

theorem addDue (d : Due) (hd : d.ofWindow = false) : SumsKept s (s.addDue d) :=
  ⟨fun _ => .inl rfl, .of_eq rfl, fun _ => rfl, rfl, rfl, by
    rw [State.addDue, List.filter_append, List.filter_cons_of_neg (by simp [hd]), List.filter_nil, List.append_nil]⟩

theorem record (r : CarrierRecord) (hr : r.values = (s.carrier c).values) : SumsKept s (s.setCarrier c r) :=
  ⟨fun _ => .inl rfl, .of_eq rfl, fun d => by
    rw [carrier_setCarrier]
    split
    · next e => rw [hr, e]
    · rfl, rfl, rfl, rfl⟩

theorem attempt : SumsKept s s.attempt :=
  .of_grants (attempt_changes s) (fun c => by rw [(attempt_changes s).carrier]) (attempt_addsGrants s)

theorem transition (st : CarrierState) (o : Option WakeClass) : SumsKept s (s.transition c st k o) where
  figures d := by
    rw [transition_figures]
    split
    · next h => obtain ⟨-, -, rfl⟩ := h; exact .inr rfl
    · exact .inl rfl
  evaluator := .transition s c st k o
  values d := transition_values s c st k o d
  applied := by rw [(transition_changes s c st k o).loader]
  window := by rw [(transition_changes s c st k o).timer]
  due := by rw [(transition_changes s c st k o).due]

theorem enqueue : SumsKept s (s.enqueue c q) :=
  .of_grants (enqueue_changes s c q) (fun d => by rw [enqueue_carrier]) (enqueue_addsGrants s c q)

theorem queueCarrier : SumsKept s (s.queueCarrier c k q) := (transition s c k _ _).trans (enqueue _ c q)

theorem raiseClass : SumsKept s (s.raiseClass c k q) :=
  .of_grants (raiseClass_changes s c k q) (raiseClass_entered s c k q).1.values (raiseClass_addsGrants s c k q)

theorem wake : SumsKept s (s.wake c k q) :=
  .of_grants (wake_changes s c k q) (wake_entered s c k q).1.values (wake_addsGrants s c k q)

theorem wakeAll (which : State → Carrier → Bool) : SumsKept s (s.wakeAll which k q) :=
  foldl_keeps (P := SumsKept s) (fun t c ht => ite_keeps (ht.trans (wake t c k q)) ht) carriers (refl s)

theorem readyLost : SumsKept s (s.readyLost c) :=
  ite ((transition s c _ _ _).trans (wakeAll _ _ _ _)) (transition s c _ _ _)

theorem endWarmup (st : CarrierState) : SumsKept s (s.endWarmup c st k) := by
  have dropped : SumsKept s (s.dropExpiry c) :=
    ⟨fun _ => .inl rfl, .of_eq rfl, fun _ => rfl, rfl, rfl, by
      rw [State.dropExpiry, List.filter_filter]
      refine List.filter_congr fun d _ => ?_
      cases d <;> simp [Due.ofWindow, isBoundary]⟩
  have released : ∀ v : State, SumsKept v (v.release c) := fun v =>
    .of_grants (release_changes v c) (fun d => by rw [release_carrier]) (release_addsGrants v c)
  exact (dropped.trans (transition _ c k st none)).trans (released _)

theorem takeFailSafe (f : FailSafe) : SumsKept s (s.takeFailSafe f) := wakeAll s _ _ _

theorem takeDemand (b : Bool) : SumsKept s (s.takeDemand c b) := by
  rw [State.takeDemand]
  split
  · exact queueCarrier s c _ _
  · exact raiseClass s c _ _
  all_goals exact refl s

theorem takeGrant : SumsKept s (s.takeGrant c) := by
  rw [State.takeGrant]
  split
  · have warming := transition s c .grant .warming none
    exact ite (warming.trans (endWarmup _ c _ _)) warming
  all_goals exact refl s

theorem takeWarmupExpiry : SumsKept s (s.takeWarmupExpiry c) := by
  rw [State.takeWarmupExpiry]
  split
  · exact ite (endWarmup s c _ _) (endWarmup s c _ _)
  all_goals exact refl s

theorem takeDrainConfirmed (b : Bool) : SumsKept s (s.takeDrainConfirmed c b) := by
  rw [State.takeDrainConfirmed]
  split
  · exact (transition s c _ _ _).trans (record _ c _ rfl)
  all_goals exact refl s

theorem takeDrainDeadline : SumsKept s (s.takeDrainDeadline c) := by
  rw [State.takeDrainDeadline]
  split
  · exact (transition s c _ _ _).trans (record _ c _ rfl)
  all_goals exact refl s

theorem takeBeaconStarved : SumsKept s (s.takeBeaconStarved c) := by
  rw [State.takeBeaconStarved]
  split
  · exact transition s c _ _ _
  all_goals exact refl s

theorem takeHeartbeatLapse : SumsKept s s.takeHeartbeatLapse := by
  have lapsed : SumsKept s s.lapseHeartbeat := ⟨fun _ => .inl rfl, .of_eq rfl, fun _ => rfl, rfl, rfl, rfl⟩
  exact lapsed.trans (addDue _ _ rfl)

theorem takeClockSecond : SumsKept s s.takeClockSecond := ⟨fun _ => .inl rfl, .of_eq rfl, fun _ => rfl, rfl, rfl, rfl⟩

theorem takeAtOnce (d : Due) : SumsKept s (s.takeAtOnce d) := by
  cases d with
  | clockSecond => exact takeClockSecond s
  | drainConfirmed c b => exact takeDrainConfirmed s c b
  | drainDeadline c => exact takeDrainDeadline s c
  | beaconStarved c => exact takeBeaconStarved s c
  | heartbeatLapse => exact takeHeartbeatLapse s
  | _ => exact refl s

theorem settleAtOnce : SumsKept s s.settleAtOnce := by
  refine foldl_keeps (P := SumsKept s) (fun t d ht => ht.trans (takeAtOnce t d)) _ ?_
  refine ⟨fun _ => .inl rfl, .of_eq rfl, fun _ => rfl, rfl, rfl, ?_⟩
  rw [List.filter_filter]
  refine List.filter_congr fun d _ => ?_
  cases d <;> rfl

theorem applyVerdict (v : Verdict) : SumsKept s (s.applyVerdict v) := by
  rw [State.applyVerdict]
  split
  · exact ite (transition s _ _ _ _) (refl s)
  · exact ite (transition s _ _ _ _) (refl s)
  · exact transition s _ _ _ _
  · exact transition s _ _ _ _
  · exact queueCarrier s _ _ _
  · exact refl s

theorem takeVerdicts (fresh : Bool) (l : List Verdict) (n : Nat) : SumsKept s (s.takeVerdicts fresh l n) := by
  have one : ∀ t c, SumsKept s t → SumsKept s (decrementBackoff t c) := fun t c ht => by
    rw [decrementBackoff]
    exact ite (ht.trans (record t c _ rfl)) ht
  have lowered : SumsKept s (if fresh then carriers.foldl decrementBackoff s else s) := ite (foldl_keeps one carriers (refl s)) (refl s)
  have left : ∀ v : State, SumsKept v { v with due := .verdicts false (l.drop n) :: v.due } := fun v =>
    ⟨fun _ => .inl rfl, .of_eq rfl, fun _ => rfl, rfl, rfl, List.filter_cons_of_neg (by simp [Due.ofWindow, isBoundary])⟩
  rw [State.takeVerdicts]
  exact foldl_keeps (P := SumsKept s) (fun t v ht => ht.trans (applyVerdict t v)) _ (ite (lowered.trans (left _)) lowered)

/-- An event that is none of the window's and makes no tick. -/
theorem takeDue (d : Due) (hd : d.ofWindow = false) (hl : d ≠ .tickLoss) : SumsKept s (s.takeDue d) := by
  cases d with
  | boundary w b l => cases hd
  | generation => cases hd
  | tickLoss => exact absurd rfl hl
  | clockSecond => exact takeClockSecond s
  | drainConfirmed c b => exact takeDrainConfirmed s c b
  | drainDeadline c => exact takeDrainDeadline s c
  | beaconStarved c => exact takeBeaconStarved s c
  | heartbeatLapse => exact takeHeartbeatLapse s
  | readyNotice c => exact ite (attempt s) (refl s)
  | warmupExpiry c => exact takeWarmupExpiry s c
  | spacingExpiry => exact attempt s
  | verdicts fresh list => exact takeVerdicts s fresh list _
  | grant c => exact takeGrant s c
  | demand c b => exact takeDemand s c b
  | failSafe f => exact takeFailSafe s f

end Operations

end SumsKept

end Sys2Proof.Machine
end

section
/-! PROOF. The commands that leave what has been summed (O31): every one but a boundary, an application, a power-on reset and those
that make a tick. -/

namespace Sys2Proof.Machine

namespace SumsKept

theorem thenFrame {s t u : State} {l : List Part} (h : OnlyChanges t u l) (ht : SumsKept s t)
    (hl : Part.evaluator ∉ l ∧ Part.controller ∉ l ∧ Part.loader ∉ l ∧ Part.timer ∉ l ∧ Part.due ∉ l := by decide) :
    SumsKept s u := ht.trans (.of_frame h hl)

theorem thenSame {s t u : State} (ht : SumsKept s t) (evaluator : u.evaluator = t.evaluator) (controller : u.controller = t.controller)
    (applied : u.loader.applied = t.loader.applied) (window : u.timer.windowNumber = t.timer.windowNumber)
    (due : u.due = t.due) : SumsKept s u :=
  ht.trans ⟨fun c => .inl (by rw [State.figures, State.figures, evaluator]), .of_eq evaluator,
    fun c => by rw [State.carrier, State.carrier, controller], applied, window, by rw [due]⟩

/-- What has been summed stands at the two ports. -/
theorem ports (s : State) : PortsKeep (SumsKept s) where
  turn _ _ ht := ht.thenSame rfl rfl rfl rfl rfl
  send t r := thenFrame (send_changes t r)
  forwarded t e _ _ := thenFrame (appendEntry_changes t e)
  refused t e _ _ ht := thenFrame (answerLocals_changes _) (thenFrame (appendEntry_changes t e) ht)
  latchFault t f := thenFrame (latchFault_changes t f)
  handDescriptor t c m a b _ _ ht := by
    rw [State.handDescriptor]
    split
    · exact ht
    · exact thenFrame (latchFault_changes t _) ht
    · have held : SumsKept s (t.setHeld c (holdIn t.timer.slot (heldEntry (t.carrier c).values.rbMax b.data) (t.held c))) :=
        thenFrame (setHeld_changes t c _) ht
      exact ite (held.trans (addDue _ _ rfl)) held
  merge _ _ _ ht := ht.thenSame rfl rfl rfl rfl rfl
  heartbeatWord t ht := by
    rw [State.heartbeatWord]
    refine ite ht ?_
    dsimp only
    split
    · exact ht.thenSame rfl rfl rfl rfl rfl
    · exact ht.thenSame rfl rfl rfl rfl rfl
  consumerWord t a := thenFrame (consumerWord_changes t a)
  clockSetWord t a ht := by
    rw [State.clockSetWord]
    exact ite (ht.thenSame rfl rfl rfl rfl rfl) (ite (ht.thenSame rfl rfl rfl rfl rfl) (ht.thenSame rfl rfl rfl rfl rfl))
  keepAwakeWord t _ ht := ht.trans (wakeAll t _ _ _)
  waiting _ _ ht := ht.thenSame rfl rfl rfl rfl rfl
  grantReport t _ := thenFrame (grantReport_changes t)
  takeResponse t st beats := thenFrame (takeResponse_changes t st beats)

section Commands

variable (s : State)

theorem takeReadyRise (c : Carrier) : SumsKept s (s.takeReadyRise c) := by
  have risen : SumsKept s (s.setReady c true) := .of_frame (setReady_changes s c true)
  exact ite (risen.trans (endWarmup _ c _ _)) risen

theorem takeReadyFall (c : Carrier) : SumsKept s (s.takeReadyFall c) := by
  have fallen : SumsKept s (s.setReady c false) := .of_frame (setReady_changes s c false)
  exact ite (fallen.trans (readyLost _ c)) fallen

theorem orderedFabricReset (o : ResetOrder) : SumsKept s (s.orderedFabricReset o) := by
  have lapse : ∀ t : State, SumsKept t t.loaderFabricReset := fun t => ite (takeHeartbeatLapse t) (refl t)
  have reset : ∀ t : State, SumsKept t t.reportFabricReset := fun t => ⟨fun _ => .inl rfl, .of_eq rfl, fun _ => rfl, rfl, rfl, rfl⟩
  cases o with
  | controllerLoaderReport => exact ((takeFailSafe s _).trans (lapse _)).trans (reset _)
  | controllerReportLoader => exact ((takeFailSafe s _).trans (reset _)).trans (lapse _)
  | loaderControllerReport => exact ((lapse s).trans (takeFailSafe _ _)).trans (reset _)
  | reportControllerLoader => exact ((reset s).trans (takeFailSafe _ _)).trans (lapse _)
  | loaderReportController => exact ((lapse s).trans (reset _)).trans (addDue _ _ rfl)
  | reportLoaderController => exact ((reset s).trans (lapse _)).trans (addDue _ _ rfl)

theorem fabricReset (o : ResetOrder) : SumsKept s ((s.abandonUpstream.flushAll).orderedFabricReset o) := by
  have flushed : SumsKept s s.abandonUpstream.flushAll := ⟨fun _ => .inl rfl, .of_eq rfl, fun _ => rfl, rfl, rfl, rfl⟩
  exact flushed.trans (orderedFabricReset _ o)

/-- An event that a command names, none of the window's. -/
theorem takeNamed {which : Due → Bool} (hw : ∀ d, which d = true → d.ofWindow = false ∧ d ≠ .tickLoss) :
    SumsKept s (s.takeNamed which) := by
  rw [State.takeNamed]
  split
  · next d rest h =>
    obtain ⟨window, tick⟩ := hw d (firstDue_picks h)
    exact (drop h window).trans (takeDue _ d window tick)
  · exact refl s

end Commands

end SumsKept

/-- A command that takes no event of the window's, makes no tick and is no power-on reset. -/
def leavesSums : Instr → Bool
  | .externalTick _ _ | .localTick _ | .tickLoss _ _ | .windowBoundary | .generationApplication | .powerOnReset _ _ => false
  | _ => true

theorem exec_sumsKept {s t : State} {i : Instr} (hi : leavesSums i = true) (h : exec i s = .next t) : SumsKept s t := by
  have settled := SumsKept.settleAtOnce s
  have named : ∀ (u : State) (which : Due → Bool), SumsKept s u → (∀ d, which d = true → d.ofWindow = false ∧ d ≠ .tickLoss) →
      SumsKept s (u.takeNamed which) := fun u which hu hw => hu.trans (SumsKept.takeNamed u hw)
  have eq : ∀ e : Due, e.ofWindow = false ∧ e ≠ .tickLoss →
      ∀ d, (d == e) = true → d.ofWindow = false ∧ d ≠ .tickLoss := fun e he d hd => by
    obtain rfl := beq_iff_eq.mp hd
    exact he
  have ports := SumsKept.ports s
  cases i with
  | powerOnReset b m => cases hi
  | externalTick mark o => cases hi
  | localTick o => cases hi
  | tickLoss cause o => cases hi
  | windowBoundary => cases hi
  | generationApplication => cases hi
  | fabricReset o => cases h; exact settled.trans (.fabricReset _ o)
  | drainConfirmed c =>
    cases h
    refine named s _ (.refl s) fun d hd => ?_
    simp only [isDrainConfirmed, Bool.or_eq_true, beq_iff_eq] at hd
    obtain rfl | rfl := hd <;> exact ⟨rfl, by simp⟩
  | drainDeadline c => cases h; exact named s _ (.refl s) (eq _ ⟨rfl, by simp⟩)
  | beaconStarved c => cases h; exact named s _ (.refl s) (eq _ ⟨rfl, by simp⟩)
  | readyNotice c => cases h; exact named _ _ settled (eq _ ⟨rfl, by simp⟩)
  | clockSecondAdvance => cases h; exact named s _ (.refl s) (eq _ ⟨rfl, by simp⟩)
  | verdictList upTo =>
    rw [exec, execVerdictList] at h
    split at h <;> cases h
    · next hv => exact settled.trans ((SumsKept.drop hv rfl).trans (.takeVerdicts _ _ _ _))
    · exact settled
  | upstreamRequest request =>
    cases request <;> cases h
    · exact ports.arbitrate _ settled
    · exact ports.arbitrate _ (ports.present _ settled)
  | policyWrite beat data => cases h; exact ports.policyMasterWrites _ _ settled
  | heartbeatWrite v e => cases h; exact ports.policyMasterWrites _ _ settled
  | consumerIndexWrite v e => cases h; exact ports.policyMasterWrites _ _ settled
  | clockSetWrite v e => cases h; exact ports.policyMasterWrites _ _ settled
  | keepAwakeWrite v e => cases h; exact ports.policyMasterWrites _ _ settled
  | downstreamResponse st beats => cases h; exact ports.takeResponse _ st beats settled
  | reportGrant => cases h; exact ports.arbitrate _ settled
  | readyRise c => cases h; exact settled.trans (.takeReadyRise _ c)
  | readyFall c => cases h; exact settled.trans (.takeReadyFall _ c)
  | warmupExpiry c => cases h; exact named _ _ settled (eq _ ⟨rfl, by simp⟩)
  | spacingExpiry => cases h; exact named _ _ settled (eq _ ⟨rfl, by simp⟩)
  | grant c =>
    rw [exec, execGrant] at h
    split at h <;> cases h
    · next d rest hd => exact .ite (settled.trans ((SumsKept.drop hd rfl).trans (.takeGrant _ c))) settled
    · exact settled
  | demand c =>
    cases h
    refine named _ _ settled fun d hd => ?_
    simp only [isDemand, Bool.or_eq_true, beq_iff_eq] at hd
    obtain rfl | rfl := hd <;> exact ⟨rfl, by simp⟩
  | failSafeWake cause => cases h; exact named _ _ settled (eq _ ⟨rfl, by simp⟩)
  | heartbeatLapse => cases h; exact named s _ (.refl s) (eq _ ⟨rfl, by simp⟩)

end Sys2Proof.Machine
end

section
/-! PROOF. What a boundary and an application do with what has been summed, and the range of the loads (O31, R82, R83, R84, R87). -/

namespace Sys2Proof.Machine

/-! ### The arithmetic (R82) -/

theorem utilisation_le {sum n rbMax : Nat} (h : sum ≤ n * rbMax) : utilisation sum n rbMax ≤ 1000 :=
  Nat.div_le_of_le_mul (by rw [Nat.mul_comm]; exact Nat.mul_le_mul_right 1000 h)

/-- Truncation brings a number towards 0, never beyond. -/
theorem tdiv_between (d : Int) (k : Nat) : min d 0 ≤ d.tdiv (2 ^ k) ∧ d.tdiv (2 ^ k) ≤ max d 0 := by
  have pos : (0 : Int) ≤ 2 ^ k := by positivity
  obtain h | h := Int.le_total 0 d
  · have low := Int.tdiv_nonneg h pos
    have high := Int.tdiv_le_self (2 ^ k) h
    omega
  · have low := Int.tdiv_nonneg (a := -d) (by omega) pos
    have high := Int.tdiv_le_self (a := -d) (2 ^ k) (by omega)
    rw [Int.neg_tdiv] at low high
    omega

/-- The new load lies between the old one and 16 u. -/
theorem filterLoad_between (load u k : Nat) :
    ((filterLoad load u k : Nat) : Int) = load + (16 * (u : Int) - load).tdiv (2 ^ k)
      ∧ min load (16 * u) ≤ filterLoad load u k ∧ filterLoad load u k ≤ max load (16 * u) := by
  obtain ⟨low, high⟩ := tdiv_between (16 * (u : Int) - load) k
  rw [filterLoad]
  omega

theorem filterLoad_le {load u k : Nat} (hl : load ≤ 16000) (hu : u ≤ 1000) : filterLoad load u k ≤ 16000 := by
  have := (filterLoad_between load u k).2.2
  omega

/-! ### The sums -/

/-- What has been summed at a carrier is at most RBmax for each measured slot, by the parameters it will be measured with. -/
def Fits (s : State) (c : Carrier) : Prop :=
  (s.figures c).windowSum = 0 ∨ ∃ p, s.evaluator.params = some p ∧ evaluated p s c = true
    ∧ (s.figures c).windowSum ≤ (s.figures c).measured * (p.entries.get c).rbMax

/-- A generation applied would have its parameters installed at once (R87). -/
def InstallsAtOnce (s : State) : Prop := s.loader.applied = none ∨ s.evaluator.lastEvaluated = s.timer.windowNumber - 1

theorem sumsFit_iff (s : State) : SumsFit s ↔
    (∀ c, Fits s c) ∧ (.generation ∈ s.due → InstallsAtOnce s → ∀ c, (s.figures c).windowSum = 0) := Iff.rfl

theorem evaluated_present {p : WindowParams} {s : State} {c : Carrier} (h : evaluated p s c = true) :
    (p.entries.get c).present = true ∧ (s.carrier c).values.present = true := by
  simpa [evaluated] using h

theorem evaluated_congr {p : WindowParams} {s t : State} {c : Carrier} (h : (t.carrier c).values = (s.carrier c).values) :
    evaluated p t c = evaluated p s c := by
  rw [evaluated, evaluated, h]

theorem Fits.of_zero {s : State} {c : Carrier} (h : (s.figures c).windowSum = 0) : Fits s c := .inl h

/-- What has been summed at a carrier that is not present is nothing. -/
theorem Fits.absent {s : State} {c : Carrier} (h : Fits s c) (out : (s.carrier c).values.present = false) :
    (s.figures c).windowSum = 0 := by
  obtain zero | ⟨p, -, he, -⟩ := h
  · exact zero
  · rw [(evaluated_present he).2] at out
    cases out

namespace SumsKept

variable {s t : State} (h : SumsKept s t)
include h

theorem windowSum (c : Carrier) : (t.figures c).windowSum = (s.figures c).windowSum := by
  obtain hc | hc := h.figures c <;> rw [hc]
  rfl

theorem measured (c : Carrier) : (t.figures c).measured = (s.figures c).measured := by
  obtain hc | hc := h.figures c <;> rw [hc]
  rfl

theorem fits {c : Carrier} (hc : Fits s c) : Fits t c := by
  rw [Fits, h.windowSum, h.measured, h.evaluator.params]
  simp only [evaluated_congr (h.values c)]
  exact hc

theorem generation : .generation ∈ t.due ↔ .generation ∈ s.due := by
  have mem : ∀ u : State, .generation ∈ u.due ↔ .generation ∈ u.due.filter Due.ofWindow := fun u => by
    simp [Due.ofWindow]
  rw [mem, h.due, ← mem]

theorem installsAtOnce : InstallsAtOnce t ↔ InstallsAtOnce s := by
  rw [InstallsAtOnce, InstallsAtOnce, h.applied, h.evaluator.lastEvaluated, h.window]

theorem sumsFit (hs : SumsFit s) : SumsFit t := by
  obtain ⟨fits, look⟩ := (sumsFit_iff s).mp hs
  refine (sumsFit_iff t).mpr ⟨fun c => h.fits (fits c), fun hg hi c => ?_⟩
  rw [h.windowSum]
  exact look (h.generation.mp hg) (h.installsAtOnce.mp hi) c

theorem loadsInRange (hs : LoadsInRange s) : LoadsInRange t := by
  intro c
  obtain hc | hc := h.figures c <;> rw [hc]
  · exact hs c
  · exact ⟨le_refl 16000, (hs c).2⟩

end SumsKept

/-! ### A boundary -/

section Boundary

variable (s : State) (w : Word32) (clean : Bool)

theorem takeBoundary_figures (c : Carrier) : (s.takeBoundary w clean).figures c =
    (s.evaluator.params.elim (s.figures c) fun p => measuredFigures p s c (s.figures c)) := by
  have status := rewriteStatus_changes ((s.reportLatchedFault w).runProcedure w clean) w
  have reported := reportLatchedFault_changes s w
  rw [State.takeBoundary, status.figures]
  cases hp : s.evaluator.params with
  | none =>
    rw [State.runProcedure, reported.evaluator, hp]
    exact reported.figures c
  | some p =>
    rw [runProcedure_eq (reported.evaluator.symm ▸ hp)]
    refine (measureAll_figures p _ c).trans ?_
    have same : evaluated p (s.reportLatchedFault w) c = evaluated p s c := evaluated_congr (by rw [reported.carrier])
    rw [reported.figures, Option.elim_some, measuredFigures, measuredFigures, same, reported.carrier]

theorem takeBoundary_timer : (s.takeBoundary w clean).timer.state = s.timer.state := by
  have status := rewriteStatus_changes ((s.reportLatchedFault w).runProcedure w clean) w
  have reported := reportLatchedFault_changes s w
  rw [State.takeBoundary, status.timer, State.runProcedure.eq_def]
  split
  · rw [reported.timer]
  · next p _ =>
    show (measureAll p (s.reportLatchedFault w)).timer.state = _
    rw [(measureAll_changes _ p).timer, reported.timer]

theorem takeBoundary_ofWindow : (s.takeBoundary w clean).due.filter Due.ofWindow = s.due.filter Due.ofWindow := by
  have status := rewriteStatus_changes ((s.reportLatchedFault w).runProcedure w clean) w
  have reported := reportLatchedFault_changes s w
  rw [State.takeBoundary, status.due, State.runProcedure.eq_def]
  split
  · rw [reported.due]
  · next p _ =>
    show ((measureAll p (s.reportLatchedFault w)).due ++ [_]).filter Due.ofWindow = _
    rw [(measureAll_changes _ p).due, reported.due, List.filter_append,
      List.filter_cons_of_neg (by simp [Due.ofWindow, isBoundary]), List.filter_nil, List.append_nil]

variable {s}

/-- Where the sums fit, a boundary leaves nothing summed (R84). -/
theorem takeBoundary_sum {c : Carrier} (h : Fits s c) : ((s.takeBoundary w clean).figures c).windowSum = 0 := by
  rw [takeBoundary_figures]
  obtain zero | ⟨p, hp, he, -⟩ := h
  · cases s.evaluator.params with
    | none => exact zero
    | some p =>
      rw [Option.elim_some, measuredFigures]
      split
      · rfl
      · exact zero
  · rw [hp, Option.elim_some, measuredFigures_of_evaluated p s he]

/-- Where the sums of the carriers present fit, a boundary keeps the loads in range (R83). -/
theorem takeBoundary_loads (h : ∀ c, (s.carrier c).values.present = true → Fits s c) (hl : LoadsInRange s) :
    LoadsInRange (s.takeBoundary w clean) := by
  intro c
  obtain ⟨load, lastU⟩ := hl c
  rw [takeBoundary_figures]
  cases hp : s.evaluator.params with
  | none => exact ⟨load, lastU⟩
  | some p =>
    rw [Option.elim_some]
    by_cases he : evaluated p s c = true
    · have sum : (s.figures c).windowSum ≤ (s.figures c).measured * (p.entries.get c).rbMax := by
        obtain zero | ⟨q, hq, -, sum⟩ := h c (evaluated_present he).2
        · rw [zero]; exact Nat.zero_le _
        · obtain rfl := Option.some.inj (hp.symm.trans hq)
          exact sum
      have low := utilisation_le sum
      rw [measuredFigures_of_evaluated p s he]
      refine ⟨?_, ?_⟩ <;> dsimp only <;> split
      · exact filterLoad_le load low
      · exact load
      · exact low
      · exact lastU
    · rw [measuredFigures, if_neg he]
      exact ⟨load, lastU⟩

end Boundary

/-! ### An application -/

section Application

variable {s : State} {w : Policy} (valid : validate s w = none)
include valid

theorem applyGeneration_figures (c : Carrier) : (s.applyGeneration w).figures c = s.figures c
    ∨ (s.applyGeneration w).figures c = .arriving ∨ (s.applyGeneration w).figures c = .zero := by
  rw [(applyGeneration_appliedAt valid).figures, appliedFigures]
  split
  · exact .inr (.inl rfl)
  · split
    · exact .inr (.inr rfl)
    · exact .inl rfl

theorem applyGeneration_sum (c : Carrier) : ((s.applyGeneration w).figures c).windowSum = 0
    ∨ (s.applyGeneration w).figures c = s.figures c := by
  obtain h | h | h := applyGeneration_figures valid c
  · exact .inr h
  · exact .inl (by rw [h]; rfl)
  · exact .inl (by rw [h]; rfl)

theorem applyGeneration_loads (hl : LoadsInRange s) : LoadsInRange (s.applyGeneration w) := by
  intro c
  obtain h | h | h := applyGeneration_figures valid c <;> rw [h]
  · exact hl c
  · exact ⟨le_refl 16000, le_refl 1000⟩
  · exact ⟨Nat.zero_le _, Nat.zero_le _⟩

/-- What has been summed at a carrier still present fits on, by the parameters that stay where a generation does not install its
own at once (R87). -/
theorem applyGeneration_fits {c : Carrier} (hc : Fits s c) (atOnce : InstallsAtOnce s → (s.figures c).windowSum = 0)
    (there : ((s.applyGeneration w).carrier c).values.present = true ∨ ((s.applyGeneration w).figures c).windowSum = 0) :
    Fits (s.applyGeneration w) c := by
  obtain zero | same := applyGeneration_sum valid c
  · exact .of_zero zero
  · obtain zero | ⟨p, hp, he, sum⟩ := hc
    · exact .of_zero (by rw [same, zero])
    · obtain present | zero := there
      · by_cases now : InstallsAtOnce s
        · exact .of_zero (by rw [same, atOnce now])
        · obtain ⟨first, late⟩ := not_or.mp now
          obtain ⟨-, -, kept⟩ := applyGeneration_parametersApplied s w
          obtain ⟨params, -⟩ := kept (Option.isSome_iff_ne_none.mpr first) late
          refine .inr ⟨p, params.trans hp, ?_, by rw [same]; exact sum⟩
          simp [evaluated, (evaluated_present he).1, present]
      · exact .of_zero zero

/-- A carrier at which something has been summed is there after an application (R13, R142). -/
theorem applyGeneration_there (sleep : SleepLaw s) {c : Carrier} (hc : Fits s c) :
    ((s.applyGeneration w).carrier c).values.present = true ∨ ((s.applyGeneration w).figures c).windowSum = 0 := by
  have applied := applyGeneration_appliedAt valid
  by_cases zero : ((s.applyGeneration w).figures c).windowSum = 0
  · exact .inr zero
  · left
    have same := (applyGeneration_sum valid c).resolve_left zero
    have present : (s.carrier c).values.present = true := by
      by_contra out
      exact zero (by rw [same, hc.absent (by simpa using out)])
    rw [applied.values]
    by_contra gone
    have gone : ((clampPolicy w).entries.get c).present = false := by simpa using gone
    obtain ⟨-, -, -, -, withdrawn, -⟩ := applied.carriersApplied c
    have there : (s.carrier c).state ≠ .absent := fun e => by
      rw [(sleep c).1.mp e] at present
      cases present
    have busy : (s.carrier c).state.busy = true := by
      cases hs : (s.carrier c).state with
      | absent => exact absurd hs there
      | on => exact absurd (by rw [(withdrawn (.inl hs) gone).2]; rfl) zero
      | faulted => exact absurd (by rw [(withdrawn (.inr hs) gone).2]; rfl) zero
      | draining | light | deep | queued | warming => rfl
    rw [(sameStructure_of_busy valid busy).present, present] at gone
    cases gone

/-- After an application none would install its parameters at once but where this one has. -/
theorem applyGeneration_installs (h : InstallsAtOnce (s.applyGeneration w)) : InstallsAtOnce s := by
  by_contra now
  obtain ⟨first, late⟩ := not_or.mp now
  obtain ⟨-, again, -⟩ := applyGeneration_timerApplied valid
  obtain applied | ended := h
  · rw [applyGeneration_loader] at applied
    cases applied
  · rw [(applyGeneration_parametersApplied s w).1, (again (Option.isSome_iff_ne_none.mpr first)).1] at ended
    exact late ended

end Application

/-- Taking up a generation keeps the loads in range. -/
theorem takeGeneration_loads {s : State} (hl : LoadsInRange s) : LoadsInRange s.takeGeneration := by
  rw [State.takeGeneration]
  split
  · split
    · exact hl
    · next valid => exact applyGeneration_loads valid hl
  · exact hl

/-- A look for a generation keeps the sums fitting (R87). -/
theorem takeGeneration_sumsFit {s : State} (sleep : SleepLaw s) (fits : ∀ c, Fits s c)
    (atOnce : InstallsAtOnce s → ∀ c, (s.figures c).windowSum = 0) :
    (∀ c, Fits s.takeGeneration c)
      ∧ (InstallsAtOnce s.takeGeneration → ∀ c, (s.takeGeneration.figures c).windowSum = 0) := by
  rw [State.takeGeneration]
  split
  · split
    · exact ⟨fits, atOnce⟩
    · next valid =>
      refine ⟨fun c => applyGeneration_fits valid (fits c) (fun now => atOnce now c) (applyGeneration_there valid sleep (fits c)),
        fun now c => ?_⟩
      obtain zero | same := applyGeneration_sum valid c
      · exact zero
      · rw [same, atOnce (applyGeneration_installs valid now) c]
  · exact ⟨fits, atOnce⟩



end Sys2Proof.Machine
end

section
/-! PROOF. The commands that make no tick keep the sums fitting (O31). -/

namespace Sys2Proof.Machine

/-- Where nothing has been summed, the sums fit. -/
theorem SumsFit.of_zero {s : State} (h : ∀ c, (s.figures c).windowSum = 0) : SumsFit s :=
  (sumsFit_iff s).mpr ⟨fun c => .of_zero (h c), fun _ _ => h⟩

theorem figures_of_reset {s : State} (h : s.evaluator = .reset) (c : Carrier) : s.figures c = .zero := by
  rw [State.figures, h]
  exact get_tabulate _ c

theorem reset_inRange : LoadsInRange State.reset ∧ SumsFit State.reset ∧ ParamsInForce State.reset := by
  have zero : ∀ c, State.reset.figures c = .zero := figures_of_reset rfl
  have carrier : ∀ c, State.reset.carrier c = .vacant := fun c => get_tabulate _ c
  refine ⟨fun c => ?_, .of_zero fun c => by rw [zero]; rfl, fun _ => rfl, nofun, fun c present => ?_⟩
  · rw [zero]
    exact ⟨Nat.zero_le _, Nat.zero_le _⟩
  · rw [carrier] at present
    cases present

theorem SleepLaw.settleAtOnce {s : State} (h : SleepLaw s) : SleepLaw s.settleAtOnce := SleepLaw.blind.toCarrierOps.settleAtOnce h

theorem windowBoundary_sumsFit {s : State} (fits : SumsFit s) : SumsFit (s.takeNamed isBoundary) := by
  rw [State.takeNamed]
  split
  · next d rest h =>
    cases d with
    | boundary w clean locked =>
      exact .of_zero fun c => takeBoundary_sum (s := { s with due := rest }) w clean (((sumsFit_iff s).mp fits).1 c)
    | _ => cases firstDue_picks h
  · exact fits

theorem generationApplication_sumsFit {s : State} (sleep : SleepLaw s) (fits : SumsFit s) :
    SumsFit (s.takeNamed fun d => d == .generation) := by
  rw [State.takeNamed]
  split
  · next d rest h =>
    obtain rfl : d = .generation := by simpa using firstDue_picks h
    obtain ⟨sums, look⟩ := (sumsFit_iff s).mp fits
    have mem : .generation ∈ s.due := (firstDue_perm h).subset List.mem_cons_self
    obtain ⟨kept, later⟩ := takeGeneration_sumsFit (s := { s with due := rest }) sleep sums (look mem)
    exact (sumsFit_iff _).mpr ⟨kept, fun _ => later⟩
  · exact fits

/-- A command that makes no tick keeps the sums fitting. -/
theorem exec_sumsFit {s t : State} {i : Instr} (sleep : SleepLaw s) (fits : SumsFit s) (still : makesTick i = false)
    (h : exec i s = .next t) : SumsFit t := by
  have settled := (SumsKept.settleAtOnce s).sumsFit fits
  by_cases leaves : leavesSums i = true
  · exact (exec_sumsKept leaves h).sumsFit fits
  · cases i with
    | windowBoundary => cases h; exact windowBoundary_sumsFit settled
    | generationApplication => cases h; exact generationApplication_sumsFit sleep.settleAtOnce settled
    | powerOnReset b m =>
      cases h
      exact .of_zero fun c => by rw [figures_of_reset rfl c]; rfl
    | externalTick => cases still
    | localTick => cases still
    | tickLoss => cases still
    | _ => exact absurd rfl leaves

end Sys2Proof.Machine
end

section
/-! PROOF. The loads stay in range at every step (O31): no boundary is taken but where the sums fit. -/

namespace Sys2Proof.Machine

/-! ### Ticks -/

theorem LoadsInRange.of_figures {s t : State} (h : ∀ c, t.figures c = s.figures c) (hs : LoadsInRange s) : LoadsInRange t :=
  fun c => by rw [h]; exact hs c

theorem takeSlot_load (f : Figures) (st : CarrierState) (rb : Nat) :
    (f.takeSlot st rb).load = f.load ∧ (f.takeSlot st rb).lastU = f.lastU := by
  cases st <;> exact ⟨rfl, rfl⟩

/-- No taking of a tick brings a load out of range. -/
theorem loadsInRange_takings : TickTakings LoadsInRange where
  clockTick s hs := hs.of_figures (clockTick_changes s).figures
  windowTick s b hs := hs.of_figures (windowTick_changes s b).figures
  heartbeatTick s hs := hs.of_figures (heartbeatTick_changes s).figures
  slotsTick s b fresh hs c := by
    rw [slotsTick_figures]
    split
    · rw [(takeSlot_load _ _ _).1, (takeSlot_load _ _ _).2]
      exact hs c
    · exact hs c
  arbiterTick s hs := hs.of_figures (arbiterTick_changes s).figures
  settleAtOnce s hs := (SumsKept.settleAtOnce s).loadsInRange hs
  failSafe s f hs := (SumsKept.takeFailSafe s f).loadsInRange hs
  lapseTaken _ hs := hs
  takeGeneration _ hs := takeGeneration_loads hs
  brought _ _ hs := hs

theorem LoadsInRange.takeLocalTick {s : State} (hs : LoadsInRange s) (o : TickOrder) : LoadsInRange (s.takeLocalTick o) :=
  loadsInRange_takings.handTick false o (hs.of_figures fun _ => rfl)

theorem LoadsInRange.takeExternalTick {s : State} (hs : LoadsInRange s) (mark : Bool) (o : TickOrder) :
    LoadsInRange (s.takeExternalTick mark o) := by
  by_cases taken : s.timer.state ≠ .holdover ∨ mark = true
  · rw [takeExternalTick_eq taken]
    exact loadsInRange_takings.handTick _ o (hs.of_figures fun c => by
      rw [State.figures, (beginsTick_ready taken).others.evaluator, State.figures])
  · obtain ⟨held, unmarked⟩ := not_or.mp taken
    have : s.takeExternalTick mark o = s := by
      rw [State.takeExternalTick.eq_def]
      split <;> simp_all
    rw [this]
    exact hs

/-! ### While events are taken -/

/-- The first of the window's events outstanding is a boundary. -/
def BoundaryFirst (s : State) : Prop := ∃ w clean locked rest, s.due.filter Due.ofWindow = .boundary w clean locked :: rest

/-- A boundary may be taken: the sums fit where one can be measured, and a generation that would install its parameters at once is
not applied before a boundary outstanding, but where nothing has been summed. -/
structure Measurable (s : State) : Prop where
  fits : ∀ c, (s.carrier c).values.present = true ∨ s.loader.staged = true → Fits s c
  look : .generation ∈ s.due → s.loader.staged = true → InstallsAtOnce s → (∀ c, (s.figures c).windowSum = 0) ∨ BoundaryFirst s

/-- No boundary is outstanding, and none comes any more before the next command. -/
structure BoundaryOver (s : State) : Prop where
  none : ∀ d ∈ s.due.filter Due.ofWindow, isBoundary d = false
  state : s.timer.state = .holdover

/-- The loads are in range, and stay so while events are taken. -/
def Safe (s : State) : Prop := LoadsInRange s ∧ (Measurable s ∨ BoundaryOver s)

theorem Safe.of_sumsFit {s : State} (loads : LoadsInRange s) (fits : SumsFit s) : Safe s := by
  obtain ⟨sums, look⟩ := (sumsFit_iff s).mp fits
  exact ⟨loads, .inl ⟨fun c _ => sums c, fun hg _ now => .inl (look hg now)⟩⟩

theorem Measurable.kept {s t : State} (hm : Measurable s) (h : SumsKept s t) (staged : t.loader.staged = s.loader.staged) :
    Measurable t := by
  refine ⟨fun c hc => h.fits (hm.fits c ?_), fun hg hst now => ?_⟩
  · rwa [h.values, staged] at hc
  · obtain zero | first := hm.look (h.generation.mp hg) (staged ▸ hst) (h.installsAtOnce.mp now)
    · exact .inl fun c => by rw [h.windowSum]; exact zero c
    · refine .inr ?_
      rw [BoundaryFirst, h.due]
      exact first

/-- What leaves the sums, the staged generation and the timer state leaves the loads safe. -/
theorem Safe.kept {s t : State} (hs : Safe s) (h : SumsKept s t) (staged : t.loader.staged = s.loader.staged)
    (state : t.timer.state = s.timer.state) : Safe t := by
  obtain ⟨loads, hm | ho⟩ := hs
  · exact ⟨h.loadsInRange loads, .inl (hm.kept h staged)⟩
  · exact ⟨h.loadsInRange loads, .inr ⟨by rw [h.due]; exact ho.none, by rw [state]; exact ho.state⟩⟩

theorem Safe.drop {s : State} (hs : Safe s) {which : Due → Bool} {d : Due} {rest : List Due}
    (h : firstDue which s.due = some (d, rest)) (hd : d.ofWindow = false) : Safe { s with due := rest } :=
  hs.kept (.drop h hd) rfl rfl

/-- An event that is none of the window's and makes no tick leaves the staged generation and the timer state. -/
theorem takeDue_stage (s : State) {d : Due} (hd : d.ofWindow = false) (hl : d ≠ .tickLoss) :
    (s.takeDue d).loader.staged = s.loader.staged ∧ (s.takeDue d).timer.state = s.timer.state := by
  have plain : ∀ {t : State} {l : List Part}, OnlyChanges s t l → Part.loader ∉ l ∧ Part.timer ∉ l →
      t.loader.staged = s.loader.staged ∧ t.timer.state = s.timer.state := fun h hp =>
    ⟨by rw [h.loader hp.1], by rw [h.timer hp.2]⟩
  cases d with
  | boundary w b l => cases hd
  | generation => cases hd
  | tickLoss => exact absurd rfl hl
  | clockSecond => exact ⟨rfl, rfl⟩
  | heartbeatLapse => exact ⟨rfl, rfl⟩
  | drainConfirmed c b => exact plain (takeDrainConfirmed_changes s c b) (by decide)
  | drainDeadline c => exact plain (takeDrainDeadline_changes s c) (by decide)
  | beaconStarved c => exact plain (takeBeaconStarved_changes s c) (by decide)
  | readyNotice c => exact plain (takeReadyNotice_changes s c) (by decide)
  | warmupExpiry c => exact plain (takeWarmupExpiry_changes s c) (by decide)
  | spacingExpiry => exact plain (attempt_changes s) (by decide)
  | verdicts fresh list => exact plain (takeVerdicts_changes s fresh list _) (by decide)
  | grant c => exact plain (takeGrant_changes s c) (by decide)
  | demand c b => exact plain (takeDemand_changes s c b) (by decide)
  | failSafe f => exact plain (takeFailSafe_changes s f) (by decide)

/-! ### The events of the window's end -/

theorem takeGeneration_ofWindow (s : State) : s.takeGeneration.due.filter Due.ofWindow = s.due.filter Due.ofWindow := by
  rw [State.takeGeneration]
  split
  · split
    · rfl
    · have grants := controllerTakes_addsGrants (s.readied (readPolicy s.loader.mirror)) (clampPolicy (readPolicy s.loader.mirror))
      rw [applyGeneration_due, List.filter_append, grants.ofWindow, (readied_changes s _).due]
      split
      · rw [List.filter_cons_of_neg (by simp [Due.ofWindow, isBoundary]), List.filter_nil, List.append_nil]
      · simp
  · rfl

theorem Safe.takeBoundary {s : State} {which : Due → Bool} {w : Word32} {clean locked : Bool} {rest : List Due} (hs : Safe s)
    (h : firstDue which s.due = some (.boundary w clean locked, rest)) : Safe (State.takeBoundary { s with due := rest } w clean) := by
  obtain ⟨loads, hm | ho⟩ := hs
  · have changes := takeBoundary_changes { s with due := rest } w clean
    have values : ∀ c, ((State.takeBoundary { s with due := rest } w clean).carrier c).values = (s.carrier c).values :=
      fun c => by rw [changes.carrier]; rfl
    have loader : (State.takeBoundary { s with due := rest } w clean).loader = s.loader := changes.loader
    have zero : ∀ c, (s.carrier c).values.present = true ∨ s.loader.staged = true →
        ((State.takeBoundary { s with due := rest } w clean).figures c).windowSum = 0 := fun c hc =>
      takeBoundary_sum (s := { s with due := rest }) w clean (hm.fits c hc)
    refine ⟨takeBoundary_loads (s := { s with due := rest }) w clean (fun c hc => hm.fits c (.inl hc)) loads,
      .inl ⟨fun c hc => .of_zero (zero c ?_), fun _ staged _ => .inl fun c => zero c (.inr ?_)⟩⟩
    · rwa [values, loader] at hc
    · rwa [loader] at staged
  · have mem : .boundary w clean locked ∈ s.due := (firstDue_perm h).subset List.mem_cons_self
    exact absurd (ho.none _ (List.mem_filter.mpr ⟨mem, rfl⟩)) (by simp [isBoundary])

theorem Safe.takeGeneration {s : State} {which : Due → Bool} {rest : List Due} (hs : Safe s)
    (h : firstDue which s.due = some (.generation, rest)) (order : ¬BoundaryFirst s) :
    Safe (State.takeGeneration { s with due := rest }) := by
  obtain ⟨loads, hm | ho⟩ := hs
  · have mem : .generation ∈ s.due := (firstDue_perm h).subset List.mem_cons_self
    have unstaged := takeGeneration_staged { s with due := rest }
    refine ⟨takeGeneration_loads (s := { s with due := rest }) loads, .inl ⟨fun c hc => ?_, fun _ staged => ?_⟩⟩
    · have present := hc.resolve_right (by rw [unstaged]; simp)
      rw [State.takeGeneration] at present ⊢
      split at present
      · next staged =>
        rw [if_pos staged]
        have fits : ∀ c, Fits { s with due := rest } c := fun c => hm.fits c (.inr staged)
        split at present
        · exact fits c
        · next valid =>
          exact applyGeneration_fits valid (fits c) (fun now => (hm.look mem staged now).resolve_right order c) (.inl present)
      · next out =>
        rw [if_neg out]
        exact hm.fits c (.inl present)
    · rw [unstaged] at staged
      cases staged
  · refine ⟨takeGeneration_loads (s := { s with due := rest }) loads, .inr ⟨fun d hd => ?_, ?_⟩⟩
    · rw [takeGeneration_ofWindow] at hd
      obtain ⟨mem, window⟩ := List.mem_filter.mp hd
      exact ho.none d (List.mem_filter.mpr ⟨firstDue_rest h mem, window⟩)
    · exact (TakingKeeps.takeGeneration { s with due := rest }).timer.state.trans ho.state

/-- An event taken that makes no tick, a generation not before a boundary. -/
theorem Safe.takeDue {s : State} {which : Due → Bool} {d : Due} {rest : List Due} (hs : Safe s)
    (h : firstDue which s.due = some (d, rest)) (hl : d ≠ .tickLoss) (order : d = .generation → ¬BoundaryFirst s) :
    Safe (State.takeDue { s with due := rest } d) := by
  by_cases hd : d.ofWindow = true
  · cases d with
    | boundary w clean locked => exact hs.takeBoundary h
    | generation => exact hs.takeGeneration h (order rfl)
    | _ => cases hd
  · have hd : d.ofWindow = false := by simpa using hd
    obtain ⟨staged, state⟩ := takeDue_stage { s with due := rest } hd hl
    exact (hs.drop h hd).kept (.takeDue _ d hd hl) staged state

end Sys2Proof.Machine
end

section
/-! PROOF. The loads stay in range at every step (O31): the first local tick of a holdover, and the commands that take events
before their tick. -/

namespace Sys2Proof.Machine

/-! ### The order of the events taken -/

theorem not_ofWindow_of_wait {d : Due} (h : d.mayWait = true ∨ d = .tickLoss) : d.ofWindow = false := by
  obtain h | rfl := h
  · cases d with
    | boundary => cases h
    | generation => cases h
    | _ => rfl
  · rfl

theorem filter_of_wait {l : List Due} (h : ∀ d ∈ l, d.mayWait = true ∨ d = .tickLoss) : l.filter Due.ofWindow = [] :=
  List.filter_eq_nil_iff.mpr fun d hd => by rw [not_ofWindow_of_wait (h d hd)]; exact Bool.false_ne_true

/-- A generation taken next stands before every boundary. -/
theorem nextDue_generation {wait : Bool} {s : State} {rest : List Due} (h : nextDue wait s.due = some (.generation, rest)) :
    ¬BoundaryFirst s := by
  rintro ⟨w, clean, locked, others, first⟩
  rw [nextDue] at h
  split at h
  · next x hx =>
    obtain rfl := Option.some.inj h
    cases firstDue_picks hx
  · split at h
    · next x hx =>
      obtain rfl := Option.some.inj h
      obtain ⟨-, before, after, hl, -, skipped⟩ := firstDue_eq_some hx
      have waits : before.filter Due.ofWindow = [] := filter_of_wait fun d hd => by
        have := skipped d hd
        by_cases hw : d.mayWait = true
        · exact .inl hw
        · exact .inr (by simpa [hw] using this)
      rw [hl, List.filter_append, waits, List.nil_append, List.filter_cons_of_pos (by rfl)] at first
      cases first
    · cases firstDue_picks h

/-! ### The first local tick of a holdover -/

/-- What a local tick of the usual order leaves: the Load Evaluator, the values, and the events of the window's end that it brings. -/
structure LocalTicked (s t : State) : Prop where
  evaluator : t.evaluator = s.evaluator
  values : ∀ c, (t.carrier c).values = (s.carrier c).values
  applied : t.loader.applied = s.loader.applied
  staged : t.loader.staged = s.loader.staged
  state : t.timer.state = s.timer.state
  due : t.due.filter Due.ofWindow = s.due.filter Due.ofWindow
    ++ (s.boundaryDue false ++ if s.looks = true then [.generation] else [])

theorem carrierDue_ofWindow {g : Globals} {c : Carrier} {r r' : CarrierRecord} {slot : Option SlotUse} {d : Due}
    (h : d ∈ carrierDue g c r r' slot) : d.ofWindow = false := by
  rw [carrierDue.eq_def] at h
  split at h
  · rw [drainDue.eq_def] at h
    repeat' split at h
    all_goals simp_all [Due.ofWindow, isBoundary]
  · split at h <;> simp_all [Due.ofWindow, isBoundary]
  · rw [noticeDue] at h
    repeat' split at h
    all_goals simp_all [Due.ofWindow, isBoundary]
  · split at h <;> simp_all [Due.ofWindow, isBoundary]
  all_goals cases h

section TickDue

variable (s : State)

theorem clockTick_ofWindow : s.clockTick.due.filter Due.ofWindow = s.due.filter Due.ofWindow := by
  rw [clockTick_due]
  split <;> simp [Due.ofWindow, isBoundary]

theorem heartbeatTick_ofWindow : s.heartbeatTick.due.filter Due.ofWindow = s.due.filter Due.ofWindow := by
  rw [heartbeatTick_due]
  split <;> simp [Due.ofWindow, isBoundary]

theorem arbiterTick_ofWindow : s.arbiterTick.due.filter Due.ofWindow = s.due.filter Due.ofWindow := by
  rw [arbiterTick_due]
  split <;> simp [Due.ofWindow, isBoundary]

theorem slotsTick_ofWindow (b : Bool) (fresh : List Carrier) :
    (s.slotsTick b fresh).due.filter Due.ofWindow = s.due.filter Due.ofWindow := by
  rw [slotsTick_due, List.filter_append]
  refine (congrArg _ (List.filter_eq_nil_iff.mpr fun d hd => ?_)).trans (List.append_nil _)
  obtain ⟨c, -, hc⟩ := List.mem_flatMap.mp hd
  rw [carrierDue_ofWindow hc]
  exact Bool.false_ne_true

end TickDue

theorem handTick_localTicked (x : State) : LocalTicked x (x.handTick false usualOrder) := by
  have taken : x.handTick false usualOrder =
      { x.firstTakings false false false false with
        due := (x.firstTakings false false false false).due ++ x.boundaryDue false ++ if x.looks then [.generation] else [] } := by
    rw [State.handTick, if_neg (by simp [State.appliesEarly, usualOrder])]
    rfl
  have count : OnlyChanges x ((x.clockTick.windowTick false).heartbeatTick) [.timer, .loader, .due] :=
    ((clockTick_changes x).seq (windowTick_changes _ false) (n := [.timer, .due])).seq (heartbeatTick_changes _)
  have loader : ((x.clockTick.windowTick false).heartbeatTick).loader =
      { x.loader with heartbeatTimer := x.loader.heartbeatTimer.map (fun n => n + 1) } := by
    rw [heartbeatTick_loader, (windowTick_changes _ _).loader, (clockTick_changes x).loader]
  have state : ((x.clockTick.windowTick false).heartbeatTick).timer.state = x.timer.state := by
    rw [(heartbeatTick_changes _).timer, windowTick_timer, clockTick_timer]
  have window : ((x.clockTick.windowTick false).heartbeatTick).due.filter Due.ofWindow = x.due.filter Due.ofWindow := by
    rw [heartbeatTick_ofWindow, windowTick_due, clockTick_ofWindow]
  have first : x.firstTakings false false false false
      = (((x.clockTick.windowTick false).heartbeatTick).slotsTick false []).arbiterTick := rfl
  rw [taken, first]
  generalize (x.clockTick.windowTick false).heartbeatTick = u at count loader state window
  have later : OnlyChanges u (u.slotsTick false []).arbiterTick [.controller, .arbiter, .due] :=
    (slotsTick_unlocked_changes u []).seq (arbiterTick_changes _)
  have values : ∀ c, ((u.slotsTick false []).arbiterTick.carrier c).values = (x.carrier c).values := fun c => by
    rw [(arbiterTick_changes _).carrier, slotsTick_carrier, tick_values, count.carrier]
  have due : (u.slotsTick false []).arbiterTick.due.filter Due.ofWindow = x.due.filter Due.ofWindow := by
    rw [arbiterTick_ofWindow, slotsTick_ofWindow, window]
  generalize (u.slotsTick false []).arbiterTick = v at later values due
  refine ⟨later.evaluator.trans count.evaluator, values, ?_, ?_, ?_, ?_⟩
  · show v.loader.applied = _
    rw [later.loader, loader]
  · show v.loader.staged = _
    rw [later.loader, loader]
    rfl
  · show v.timer.state = _
    rw [later.timer, state]
  · show (v.due ++ x.boundaryDue false ++ if x.looks = true then [Due.generation] else []).filter Due.ofWindow = _
    rw [List.append_assoc, List.filter_append, due]
    refine congrArg _ (List.filter_eq_self.mpr fun d hd => ?_)
    obtain hd | hd := List.mem_append.mp hd
    · rw [State.boundaryDue] at hd
      split at hd
      · rw [List.mem_singleton.mp hd]; rfl
      · cases hd
    · split at hd
      · rw [List.mem_singleton.mp hd]; rfl
      · cases hd

/-- The first local tick of a holdover with no event of the window's outstanding: where it looks for a generation it has closed a
window, or no generation is applied and no boundary comes. -/
theorem Measurable.localTick {s : State} (hm : Measurable s) (loads : LoadsInRange s) (quiet : s.due.filter Due.ofWindow = [])
    (held : s.timer.state = .holdover) : Safe (s.takeLocalTick usualOrder) := by
  have ticked := handTick_localTicked s.beginsLocal
  have due := ticked.due
  rw [show s.beginsLocal.due.filter Due.ofWindow = [] from quiet, List.nil_append] at due
  refine ⟨loads.takeLocalTick usualOrder, ?_⟩
  change Measurable (s.beginsLocal.handTick false usualOrder) ∨ BoundaryOver (s.beginsLocal.handTick false usualOrder)
  generalize s.beginsLocal.handTick false usualOrder = t at ticked due
  rw [State.boundaryDue] at due
  by_cases closes : s.beginsLocal.closesWindow = true
  · left
    rw [if_pos closes] at due
    refine ⟨fun c hc => ?_, fun _ _ _ => .inr ⟨_, _, _, _, due⟩⟩
    rw [ticked.values, ticked.staged] at hc
    have fits := hm.fits c hc
    rw [Fits, State.figures, ticked.evaluator]
    simp only [evaluated_congr (ticked.values c)]
    exact fits
  · right
    rw [if_neg closes, List.nil_append] at due
    refine ⟨fun d hd => ?_, ticked.state.trans held⟩
    rw [due] at hd
    split at hd
    · rw [List.mem_singleton.mp hd]; rfl
    · cases hd

theorem enterHoldover_sumsKept (s : State) : SumsKept s s.enterHoldover := ⟨fun _ => .inl rfl, .of_eq rfl, fun _ => rfl, rfl, rfl, rfl⟩

/-- Tick loss taken where no event of the window's is outstanding. -/
theorem Safe.takeTickLoss {s : State} (hs : Safe s) (quiet : s.due.filter Due.ofWindow = []) : Safe s.takeTickLoss := by
  obtain ⟨loads, hm | ho⟩ := id hs
  · have entered := (enterHoldover_sumsKept s).trans (.takeFailSafe _ .holdover)
    have changes := takeFailSafe_changes s.enterHoldover .holdover
    have staged : (s.enterHoldover.takeFailSafe .holdover).loader.staged = s.loader.staged := by rw [changes.loader]; rfl
    have lost : Safe ((s.enterHoldover.takeFailSafe .holdover).takeLocalTick usualOrder) :=
      (hm.kept entered staged).localTick (entered.loadsInRange loads) (entered.due.trans quiet) (by rw [changes.timer]; rfl)
    rw [State.takeTickLoss.eq_def]
    split
    · exact lost
    · exact lost
    · exact hs
  · have : s.takeTickLoss = s := by rw [State.takeTickLoss, ho.state]
    rw [this]
    exact hs

/-! ### The events taken before a tick -/

/-- The event taken next. -/
theorem Safe.takeNext {s : State} {wait : Bool} {d : Due} {rest : List Due} (hs : Safe s) (h : nextDue wait s.due = some (d, rest)) :
    Safe (State.takeDue { s with due := rest } d) := by
  obtain ⟨hd, which, hw⟩ | ⟨rfl, hw, hall⟩ := nextDue_cases h
  · refine hs.takeDue hw hd fun hg => ?_
    subst hg
    exact nextDue_generation h
  · exact (hs.drop hw rfl).takeTickLoss (filter_of_wait fun e he => hall e (firstDue_rest hw he))

theorem Safe.settle {s : State} (hs : Safe s) (wait : Bool) : Safe (s.settle wait) :=
  takeSteps_keeps (fun _ _ _ h ht => ht.takeNext h) _ hs

theorem Safe.takeDrains {s : State} (hs : Safe s) : Safe s.takeDrains := by
  refine takeSteps_keeps (fun t d rest h ht => ht.takeDue h ?_ fun hg => ?_) _ hs
  · rintro rfl
    cases firstDue_picks h
  · subst hg
    cases firstDue_picks h

theorem Safe.takeHoldoverCause {s : State} (hs : Safe s) (cause : HoldoverOrder) (wait : Bool) :
    Safe (s.takeHoldoverCause cause wait) := by
  have drained := hs.takeDrains
  have handed : ∀ {t : State}, Safe t → Safe (t.addDue (.failSafe .holdover)) := fun ht => ht.kept (.addDue _ _ rfl) rfl rfl
  cases cause with
  | beforeOutstanding =>
    have changes := takeFailSafe_changes s.takeDrains .holdover
    exact (drained.kept (.takeFailSafe _ _) (by rw [changes.loader]) (by rw [changes.timer])).settle wait
  | afterOutstanding => exact (handed drained).settle wait
  | afterLocalTick => exact handed (drained.settle wait)

/-! ### Every step -/

theorem exec_loads {s t : State} {i : Instr} (loads : LoadsInRange s) (fits : SumsFit s) (h : exec i s = .next t) :
    LoadsInRange t := by
  have safe := Safe.of_sumsFit loads fits
  have settled := SumsKept.settleAtOnce s
  by_cases leaves : leavesSums i = true
  · exact (exec_sumsKept leaves h).loadsInRange loads
  · cases i with
    | windowBoundary =>
      cases h
      rw [State.takeNamed]
      split
      · next d rest hd =>
        exact ((Safe.of_sumsFit (settled.loadsInRange loads) (settled.sumsFit fits)).takeDue hd
          (by rintro rfl; cases firstDue_picks hd) (by rintro rfl; cases firstDue_picks hd)).1
      · exact settled.loadsInRange loads
    | generationApplication =>
      cases h
      rw [State.takeNamed]
      split
      · next d rest hd =>
        obtain rfl : d = .generation := by simpa using firstDue_picks hd
        exact takeGeneration_loads (s := { s.settleAtOnce with due := rest }) (settled.loadsInRange loads)
      · exact settled.loadsInRange loads
    | powerOnReset b m =>
      cases h
      intro c
      rw [figures_of_reset rfl c]
      exact ⟨Nat.zero_le _, Nat.zero_le _⟩
    | externalTick mark o =>
      rw [exec, execExternalTick] at h
      split at h <;> cases h
      · exact loads
      · exact (safe.settle _).1.takeExternalTick mark o
    | localTick o =>
      rw [exec, execLocalTick] at h
      split at h <;> cases h
      · exact (safe.settle _).1.takeLocalTick o
      · exact (safe.settle _).1
      · exact (safe.settle _).1
    | tickLoss cause o =>
      have entered := settled.trans (enterHoldover_sumsKept s.settleAtOnce)
      have held := Safe.of_sumsFit (entered.loadsInRange loads) (entered.sumsFit fits)
      rw [exec, execTickLoss] at h
      split at h <;> cases h
      · exact settled.loadsInRange loads
      · exact (held.takeHoldoverCause cause _).1.takeLocalTick o
      · exact (held.takeHoldoverCause cause _).1.takeLocalTick o
    | _ => exact absurd rfl leaves

theorem idle_loads {s : State} (loads : LoadsInRange s) (fits : SumsFit s) : LoadsInRange s.idle := by
  rw [State.idle]
  split
  · next h => exact ((Safe.of_sumsFit loads fits).takeNext h).1
  · next none =>
    split
    · next side hside => exact ((SumsKept.ports s).grantSide side (inFlight_of_choice hside) (.refl s)).loadsInRange loads
    · have lost : Safe s.takeTickLoss := (Safe.of_sumsFit loads fits).takeTickLoss (by rw [nextDue_eq_none none]; rfl)
      refine ite_keeps lost.1 (ite_keeps (loads.takeLocalTick _) ?_)
      exact loads.of_figures (t := s.passTime) fun c => by
        rw [State.passTime]
        split <;> rfl

/-- Every step keeps the loads in range where the sums fit (R83). -/
theorem step_loads {s t : State} (loads : LoadsInRange s) (fits : SumsFit s) (h : step s = .next t) : LoadsInRange t := by
  rw [step] at h
  split at h
  · cases h; exact idle_loads loads fits
  · next i rest _ => exact exec_loads (s := { s with pending := rest }) loads fits h

end Sys2Proof.Machine
end

section
/-! PROOF. A tick keeps the sums fitting where the parameters of the applied policy are in force (O31), and the statement. -/

namespace Sys2Proof.Machine

/-! ### What a tick sums -/

/-- What a carrier may retire is at most the RBmax it is measured with, but for the carriers of `fresh` (R81, R82). -/
def RetiresWithin (s : State) (fresh : List Carrier) : Prop :=
  ∀ c, (s.carrier c).values.present = true → c ∉ fresh →
    ∃ p, s.evaluator.params = some p ∧ (p.entries.get c).present = true ∧ ∀ h ∈ s.held c, h.rb ≤ (p.entries.get c).rbMax

theorem retiredSlot_le {l : List Held} {slot : Slot} {bound : Nat} (h : ∀ e ∈ l, e.rb ≤ bound) : (retiredSlot l slot).rb ≤ bound := by
  rw [retiredSlot]
  split
  · next e he => exact h e (List.mem_of_find?_eq_some he)
  · exact Nat.zero_le _

/-- A slot retired adds at most its bound to the sum, for one measured slot more (R80, R81). -/
theorem takeSlot_fits {f : Figures} {st : CarrierState} {rb bound : Nat} (hf : f.windowSum ≤ f.measured * bound) (hr : rb ≤ bound) :
    (f.takeSlot st rb).windowSum ≤ (f.takeSlot st rb).measured * bound := by
  have more : f.windowSum + rb ≤ (f.measured + 1) * bound := by rw [Nat.add_mul, Nat.one_mul]; exact Nat.add_le_add hf hr
  cases st with
  | on | draining | light => exact more
  | absent | deep | queued | warming | faulted => exact hf

/-- The events, the parameters, the values and the window stand, whatever has been summed. -/
structure BooksKept (s t : State) : Prop where
  evaluator : EvaluatorKept s t
  values : ∀ c, (t.carrier c).values = (s.carrier c).values
  applied : t.loader.applied = s.loader.applied
  window : t.timer.windowNumber = s.timer.windowNumber
  due : t.due.filter Due.ofWindow = s.due.filter Due.ofWindow

theorem SumsKept.books {s t : State} (h : SumsKept s t) : BooksKept s t := ⟨h.evaluator, h.values, h.applied, h.window, h.due⟩

theorem BooksKept.trans {s t u : State} (h : BooksKept s t) (k : BooksKept t u) : BooksKept s u :=
  ⟨h.evaluator.trans k.evaluator, fun c => (k.values c).trans (h.values c), k.applied.trans h.applied, k.window.trans h.window,
    k.due.trans h.due⟩

theorem slotsTick_books (s : State) (b : Bool) (fresh : List Carrier) : BooksKept s (s.slotsTick b fresh) where
  evaluator := foldl_keeps (P := EvaluatorKept s) (fun t c ht => by
    refine ht.trans ?_
    rw [carrierTick]
    dsimp only
    split
    · split <;> exact ⟨rfl, rfl, rfl⟩
    · exact ⟨rfl, rfl, rfl⟩) carriers (.refl s)
  values c := by rw [slotsTick_carrier, tick_values]
  applied := by rw [(slotsTick_changes s b fresh).loader]
  window := by rw [slotsTick_timer]
  due := slotsTick_ofWindow s b fresh

/-- A tick at the carriers keeps the sums fitting (R80, R81). -/
theorem slotsTick_fits {s : State} {fresh : List Carrier} (b : Bool) (fits : ∀ c, Fits s c) (within : RetiresWithin s fresh)
    (c : Carrier) : Fits (s.slotsTick b fresh) c := by
  have books := slotsTick_books s b fresh
  rw [Fits, books.evaluator.params, slotsTick_figures]
  simp only [evaluated_congr (books.values c)]
  split
  · next h =>
    obtain ⟨-, present, out⟩ := h
    obtain ⟨p, hp, entry, bound⟩ := within c present out
    refine .inr ⟨p, hp, by simp [evaluated, entry, present], takeSlot_fits ?_ (retiredSlot_le bound)⟩
    obtain zero | ⟨q, hq, -, sum⟩ := fits c
    · rw [zero]; exact Nat.zero_le _
    · obtain rfl := Option.some.inj (hp.symm.trans hq)
      exact sum
  · exact fits c

theorem arbiterTick_sumsKept (s : State) : SumsKept s s.arbiterTick := by
  have changes := arbiterTick_changes s
  exact ⟨fun c => .inl (changes.figures c), .of_eq changes.evaluator, fun c => by rw [changes.carrier], by rw [changes.loader],
    by rw [changes.timer], arbiterTick_ofWindow s⟩

theorem takeEarlyLapse_sumsKept (s : State) : SumsKept s s.takeEarlyLapse := by
  rw [State.takeEarlyLapse]
  split
  · have settled := SumsKept.settleAtOnce s
    generalize s.settleAtOnce = t at settled
    have erased : SumsKept t { t with due := t.due.erase (.failSafe .heartbeatLapsed) } := by
      refine ⟨fun _ => .inl rfl, .of_eq rfl, fun _ => rfl, rfl, rfl, ?_⟩
      rw [← List.erase_filter]
      exact List.erase_of_not_mem fun h => by simp [Due.ofWindow, isBoundary] at h
    exact (settled.trans erased).trans (.takeFailSafe _ _)
  · exact .refl s

theorem takeEarlyLapse_monitor (s : State) : s.takeEarlyLapse.monitor = s.monitor := by
  rw [State.takeEarlyLapse]
  split
  · rw [(takeFailSafe_changes _ _).monitor]
    exact (settleAtOnce_changes s).monitor
  · rfl

theorem RetiresWithin.kept {s t : State} {fresh : List Carrier} (h : RetiresWithin s fresh) (books : BooksKept s t)
    (held : t.monitor = s.monitor) : RetiresWithin t fresh := by
  intro c present out
  rw [books.values] at present
  rw [books.evaluator.params, State.held, held]
  exact h c present out

/-! ### A look for a generation at a tick -/

/-- Where the parameters of a generation would be installed at once, there are none yet. -/
def LooksLate (s : State) : Prop := InstallsAtOnce s → s.evaluator.params = none

theorem LooksLate.kept {s t : State} (h : LooksLate s) (books : BooksKept s t) : LooksLate t := by
  rw [LooksLate, InstallsAtOnce, books.applied, books.evaluator.lastEvaluated, books.window, books.evaluator.params]
  exact h

theorem LooksLate.zero {s : State} (h : LooksLate s) (fits : ∀ c, Fits s c) (now : InstallsAtOnce s) (c : Carrier) :
    (s.figures c).windowSum = 0 := by
  obtain zero | ⟨p, hp, -⟩ := fits c
  · exact zero
  · rw [h now] at hp
    cases hp

/-- A tick that looks for a generation has closed a window that has not been evaluated, or comes before the first application. -/
theorem windowTick_looksLate {x : State} {b : Bool} (looks : x.looks = true) (first : x.loader.applied = none → x.evaluator.params = none)
    (again : x.loader.applied.isSome = true → x.evaluator.lastEvaluated = x.timer.windowNumber - 1) :
    LooksLate (x.clockTick.windowTick b) := by
  have loader : (x.clockTick.windowTick b).loader = x.loader := by rw [(windowTick_changes _ b).loader, (clockTick_changes x).loader]
  have evaluator : (x.clockTick.windowTick b).evaluator = x.evaluator := by
    rw [(windowTick_changes _ b).evaluator, (clockTick_changes x).evaluator]
  rw [LooksLate, InstallsAtOnce, loader, evaluator]
  rintro (unapplied | ended)
  · exact first unapplied
  · cases ha : x.loader.applied with
    | none => exact first ha
    | some p =>
      have applied : x.loader.applied.isSome = true := by rw [ha]; rfl
      have closes : x.closesWindow = true := by simpa [State.looks, ha] using looks
      rw [windowTick_closing _ b (by rw [(clockTick_changes x).loader]; exact applied) (by rw [clockTick_closesWindow, closes]),
        clockTick_timer, again applied] at ended
      dsimp only at ended
      have apart : x.timer.windowNumber - 1 ≠ x.timer.windowNumber + 1 - 1 := by bv_omega
      exact absurd ended apart

/-- What the carriers there before an application may retire after it (R72). -/
theorem takeGeneration_retires {s : State} (within : RetiresWithin s []) (late : LooksLate s) :
    RetiresWithin s.takeGeneration s.absentees := by
  have before : RetiresWithin s s.absentees := fun c present _ => within c present List.not_mem_nil
  rw [State.takeGeneration]
  split
  · split
    · exact before.kept ⟨.of_eq rfl, fun _ => rfl, rfl, rfl, rfl⟩ rfl
    · intro c _ out
      have present : (s.carrier c).values.present = true := by
        simpa [State.absentees, mem_carriers] using out
      obtain ⟨p, hp, entry, bound⟩ := within c present List.not_mem_nil
      have later : ¬InstallsAtOnce s := fun now => by
        rw [late now] at hp
        cases hp
      obtain ⟨applied, unended⟩ := not_or.mp later
      obtain ⟨-, -, kept⟩ := applyGeneration_parametersApplied s (readPolicy s.loader.mirror)
      refine ⟨p, (kept (Option.isSome_iff_ne_none.mpr applied) unended).1.trans hp, entry, fun h hh => ?_⟩
      rw [applyGeneration_held, takeHeld] at hh
      split at hh
      · cases hh
      · obtain ⟨e, he, rfl⟩ := List.mem_map.mp hh
        exact (Nat.min_le_left _ _).trans (bound e he)
  · exact before

/-! ### A tick -/

section HandTick

variable {x : State} {b : Bool}

/-- The takings of a tick before an application at it. -/
theorem firstTakings_sums (sw aw lf : Bool) (fits : ∀ c, Fits x c) (sleep : SleepLaw x) (within : RetiresWithin x []) :
    BooksKept (x.clockTick.windowTick b) (x.firstTakings b sw aw lf) ∧ (∀ c, Fits (x.firstTakings b sw aw lf) c)
      ∧ SleepLaw (x.firstTakings b sw aw lf) ∧ (sw = true → RetiresWithin (x.firstTakings b sw aw lf) []) := by
  have count : OnlyChanges x (x.clockTick.windowTick b) [.timer, .due] := (clockTick_changes x).seq (windowTick_changes _ b)
  have beat : SumsKept (x.clockTick.windowTick b) (x.clockTick.windowTick b).heartbeatTick := by
    have changes := heartbeatTick_changes (x.clockTick.windowTick b)
    exact ⟨fun c => .inl (changes.figures c), .of_eq changes.evaluator, fun c => by rw [changes.carrier],
      by rw [heartbeatTick_loader], by rw [changes.timer], heartbeatTick_ofWindow _⟩
  have counted : OnlyChanges x (x.clockTick.windowTick b).heartbeatTick [.timer, .loader, .due] :=
    count.seq (heartbeatTick_changes _)
  rw [State.firstTakings]
  generalize (x.clockTick.windowTick b).heartbeatTick = v at beat counted
  have fitsV : ∀ c, Fits v c := fun c => by
    rw [Fits, counted.figures, counted.evaluator]
    have same : (v.carrier c).values = (x.carrier c).values := by rw [counted.carrier]
    simp only [evaluated_congr same]
    exact fits c
  have sleepV : SleepLaw v := sleep.of_records fun c => by rw [counted.carrier]; exact ⟨rfl, rfl⟩
  have withinV : RetiresWithin v [] := fun c present out => by
    rw [counted.carrier] at present
    rw [counted.evaluator, counted.held]
    exact within c present out
  have lapse : SumsKept v (if lf = true then v.takeEarlyLapse else v) := .ite (takeEarlyLapse_sumsKept v) (.refl v)
  have sleepU : SleepLaw (if lf = true then v.takeEarlyLapse else v) :=
    ite_keeps (SleepLaw.blind.toCarrierOps.takeEarlyLapse sleepV) sleepV
  have monitor : (if lf = true then v.takeEarlyLapse else v).monitor = v.monitor :=
    ite_keeps (P := fun u => u.monitor = v.monitor) (takeEarlyLapse_monitor v) rfl
  generalize (if lf = true then v.takeEarlyLapse else v) = u at lapse sleepU monitor
  have fitsU : ∀ c, Fits u c := fun c => lapse.fits (fitsV c)
  have withinU : RetiresWithin u [] := withinV.kept lapse.books monitor
  have booksU := (beat.trans lapse).books
  have slots : BooksKept (x.clockTick.windowTick b) (if sw = true then u else u.slotsTick b [])
      ∧ (∀ c, Fits (if sw = true then u else u.slotsTick b []) c) ∧ SleepLaw (if sw = true then u else u.slotsTick b [])
      ∧ (sw = true → RetiresWithin (if sw = true then u else u.slotsTick b []) []) := by
    cases sw with
    | true => exact ⟨booksU, fitsU, sleepU, fun _ => withinU⟩
    | false =>
      exact ⟨booksU.trans (slotsTick_books u b []), slotsTick_fits b fitsU withinU,
        SleepLaw.blind.toCarrierOps.slotsTick b [] sleepU, nofun⟩
  generalize (if sw = true then u else u.slotsTick b []) = t at slots
  obtain ⟨booksT, fitsT, sleepT, withinT⟩ := slots
  have tick := arbiterTick_sumsKept t
  split
  · exact ⟨booksT, fitsT, sleepT, withinT⟩
  · exact ⟨booksT.trans tick.books, fun c => tick.fits (fitsT c), SleepLaw.blind.toCarrierOps.arbiterTick sleepT,
      fun h => (withinT h).kept tick.books (arbiterTick_changes t).monitor⟩

/-- An application at a tick, and the takings after it. -/
theorem lateTakings_fits {u : State} {o : TickOrder} (fits : ∀ c, Fits u c) (sleep : SleepLaw u) (late : LooksLate u)
    (within : o.slotsLate = true → RetiresWithin u []) :
    (∀ c, Fits (u.lateTakings b o) c) ∧ (u.lateTakings b o).due.filter Due.ofWindow = u.due.filter Due.ofWindow := by
  have settled := SumsKept.settleAtOnce u
  have monitor := (settleAtOnce_changes u).monitor
  have fresh : u.settleAtOnce.absentees = u.absentees := by simp only [State.absentees, settled.values]
  have slept := sleep.settleAtOnce
  rw [State.lateTakings, ← fresh]
  generalize u.settleAtOnce = v at settled monitor slept
  have fitsV : ∀ c, Fits v c := fun c => settled.fits (fits c)
  have lateV : LooksLate v := late.kept settled.books
  obtain ⟨looked, -⟩ := takeGeneration_sumsFit slept fitsV (lateV.zero fitsV)
  have slots : (∀ c, Fits (if o.slotsLate = true then v.takeGeneration.slotsTick b v.absentees else v.takeGeneration) c)
      ∧ (if o.slotsLate = true then v.takeGeneration.slotsTick b v.absentees else v.takeGeneration).due.filter Due.ofWindow
        = u.due.filter Due.ofWindow := by
    have due : v.takeGeneration.due.filter Due.ofWindow = u.due.filter Due.ofWindow := (takeGeneration_ofWindow v).trans settled.due
    split
    · next h =>
      exact ⟨slotsTick_fits b looked (takeGeneration_retires ((within h).kept settled.books monitor) lateV),
        (slotsTick_ofWindow _ b _).trans due⟩
    · exact ⟨looked, due⟩
  generalize (if o.slotsLate = true then v.takeGeneration.slotsTick b v.absentees else v.takeGeneration) = t at slots
  obtain ⟨fitsT, dueT⟩ := slots
  have tick := arbiterTick_sumsKept t
  refine ⟨fun c => ?_, ?_⟩
  · exact ite_keeps (P := fun v => Fits v c) (tick.fits (fitsT c)) (fitsT c)
  · exact ite_keeps (P := fun v => v.due.filter Due.ofWindow = u.due.filter Due.ofWindow) (tick.due.trans dueT) dueT

/-- A tick with no event outstanding keeps the sums fitting. -/
theorem handTick_sumsFit (o : TickOrder) (idle : x.due = []) (fits : ∀ c, Fits x c) (sleep : SleepLaw x)
    (within : RetiresWithin x []) (first : x.loader.applied = none → x.evaluator.params = none)
    (again : x.loader.applied.isSome = true → x.evaluator.lastEvaluated = x.timer.windowNumber - 1) :
    SumsFit (x.handTick b o) := by
  have late : x.looks = true → LooksLate (x.clockTick.windowTick b) := fun looks => windowTick_looksLate looks first again
  have nothing : (x.clockTick.windowTick b).due.filter Due.ofWindow = [] := by
    rw [windowTick_due, clockTick_ofWindow, idle]; rfl
  have absent : ∀ t : State, t.due.filter Due.ofWindow = [] → .generation ∉ t.due := fun t ht hm => by
    have : Due.generation ∈ t.due.filter Due.ofWindow := List.mem_filter.mpr ⟨hm, rfl⟩
    rw [ht] at this
    cases this
  rw [State.handTick]
  split
  · next early =>
    have looks : x.looks = true := by
      rw [State.appliesEarly, Bool.and_eq_true] at early
      exact early.1
    obtain ⟨books, fitsU, sleepU, withinU⟩ := firstTakings_sums (b := b) o.slotsLate o.arbiterLate o.lapseFirst fits sleep within
    generalize x.firstTakings b o.slotsLate o.arbiterLate o.lapseFirst = u at books fitsU sleepU withinU
    obtain ⟨fitsT, dueT⟩ := lateTakings_fits (b := b) (o := o) fitsU sleepU ((late looks).kept books) withinU
    refine (sumsFit_iff _).mpr ⟨fitsT, fun hg => ?_⟩
    obtain hg | hg := List.mem_append.mp hg
    · exact absurd hg (absent _ (dueT.trans (books.due.trans nothing)))
    · rw [State.boundaryDue] at hg
      split at hg
      · cases List.mem_singleton.mp hg
      · cases hg
  · obtain ⟨books, fitsU, -⟩ := firstTakings_sums (b := b) false false o.lapseFirst fits sleep within
    generalize x.firstTakings b false false o.lapseFirst = u at books fitsU
    refine (sumsFit_iff _).mpr ⟨fitsU, fun hg now => ?_⟩
    have looks : x.looks = true := by
      obtain hg | hg := List.mem_append.mp hg
      · obtain hg | hg := List.mem_append.mp hg
        · exact absurd hg (absent _ (books.due.trans nothing))
        · rw [State.boundaryDue] at hg
          split at hg
          · cases List.mem_singleton.mp hg
          · cases hg
      · split at hg
        · assumption
        · cases hg
    exact ((late looks).kept books).zero fitsU now

end HandTick

/-- A tick begun at a state that meets the laws. -/
theorem tick_sumsFit {s x : State} {b : Bool} (o : TickOrder) (ready : TickReady s x) (idle : x.due = [])
    (held : ∀ c, ∀ h ∈ x.held c, h ∈ s.held c) (sleep : SleepLaw s) (law : HeldLaw s) (force : ParamsInForce s) (fits : SumsFit s) :
    SumsFit (x.handTick b o) := by
  obtain ⟨first, again, params⟩ := force
  obtain ⟨lists, -⟩ := law
  have carrier : ∀ c, x.carrier c = s.carrier c := ready.others.carrier
  refine handTick_sumsFit o idle (fun c => ?_) (sleep.of_records fun c => by rw [carrier]; exact ⟨rfl, rfl⟩) (fun c present _ => ?_)
    (by rw [ready.others.loader, ready.others.evaluator]; exact first)
    (by rw [ready.others.loader, ready.others.evaluator, ready.number]; exact again)
  · rw [Fits, ready.others.figures, ready.others.evaluator]
    have same : (x.carrier c).values = (s.carrier c).values := by rw [carrier]
    simp only [evaluated_congr same]
    exact ((sumsFit_iff s).mp fits).1 c
  · rw [carrier] at present
    obtain ⟨p, hp, entry, rbMax⟩ := params c present
    refine ⟨p, by rw [ready.others.evaluator, hp], entry, fun h hh => ?_⟩
    obtain ⟨-, bound, -⟩ := lists c
    rw [rbMax]
    exact bound h (held c h hh)

/-- Settles O31: the arithmetic, reset, the events that may be taken in a step, the commands that make no tick, and the ticks. -/
theorem filterKeepsRange : Obligations.FilterKeepsRange := by
  refine ⟨fun load sum n rbMax k hl hs _ _ => ?_, reset_inRange, fun s t => step_loads, fun s t i => exec_sumsFit,
    fun s t o sleep law force idle fits => ⟨fun mark h => ?_, fun h => ?_⟩⟩
  · obtain ⟨value, low, high⟩ := filterLoad_between load (utilisation sum n rbMax) k
    exact ⟨utilisation_le hs, value, low, high, filterLoad_le hl (utilisation_le hs)⟩
  · by_cases taken : s.timer.state ≠ .holdover ∨ mark = true
    · rw [exec_externalTick idle taken o] at h
      cases h
      refine tick_sumsFit o (beginsTick_ready taken) ((beginsTick_due taken).trans idle) (fun c e he => ?_) sleep law force fits
      rw [beginsTick_held taken, State.listAtTick] at he
      split at he
      · cases he
      · exact he
    · obtain ⟨held, unmarked⟩ := not_or.mp taken
      rw [exec, execExternalTick, if_pos ⟨by simpa using held, by simpa using unmarked⟩] at h
      cases h
      exact fits
  · by_cases held : s.timer.state = .holdover
    · rw [exec_localTick idle held o] at h
      cases h
      exact tick_sumsFit o (beginsLocal_ready s) idle (fun c e he => he) sleep law force fits
    · rw [exec, execLocalTick, settle_nothing idle] at h
      cases hs : s.timer.state with
      | holdover => exact absurd hs held
      | unsynced | locked =>
        rw [hs] at h
        cases h
        exact fits

end Sys2Proof.Machine
end
